-- ==== Sys2Proof/Word.lean ====
section
/-! DEFINITION. The words of the HT-480: bytes, addresses, the numbers of channels, lanes and spaces. -/

namespace Sys2Proof

/-- A byte of element data. -/
abbrev Byte := BitVec 8

/-- An engine virtual address, 40 bits (introduction, "Addresses"). -/
abbrev Eva := BitVec 40

/-- A physical address, 44 bits (introduction, "Addresses"). -/
abbrev Pa := BitVec 44

/-- A channel number, 0 to 7. -/
abbrev ChanNo := Fin 8

/-- A lane number, 0 to 3. -/
abbrev LaneNo := Fin 4

/-- An address space number (SID), 0 to 15. -/
abbrev SpaceNo := Fin 16

/-- Increment of an 8-bit count that stays at 255 (R14, R115, R148). -/
def satInc (x : BitVec 8) : BitVec 8 := if x = 255#8 then x else x + 1

/-- One bit of a Boolean. -/
def bit (b : Bool) : BitVec 1 := BitVec.ofBool b

end Sys2Proof
end

