-- ==== Sys2Proof/Syntax.lean ====
section
/-! DEFINITION. The commands of the HT-480: one constructor per row of spec/opcode_table.json, with the row's
operands, and the names those operands use (registers, transactions, answers of the memory system). -/

namespace Sys2Proof

/-- The four kinds of writable 64-bit register (section 1.3). -/
inductive Reg64 where
  /-- INVAL_ADDR. -/
  | invalAddr
  /-- SPACE_ROOT[s]. -/
  | spaceRoot (s : SpaceNo)
  /-- SQ_BASE of CHCFG[c]. -/
  | sqBase (c : ChanNo)
  /-- CQ_BASE of CHCFG[c]. -/
  | cqBase (c : ChanNo)
deriving DecidableEq, Repr

/-- The two command registers of a channel (section 2.3). -/
inductive CmdPort where
  /-- CH_CMD in the channel window: the six operational commands. -/
  | chCmd
  /-- CH_CTL in CHCFG[c]: all nine commands. -/
  | chCtl
deriving DecidableEq, Repr

/-- One 32-bit register location of the 64 KiB window (the tables of section 1.1). -/
inductive Reg where
  | engId | engCtl | engStatus | resetCause | tickDiv | tickCount | busTimeout | laneEnable | laneStatus
  | agingLimit | invalCtl | invalStatus | glbEvtPending | glbEvtMask | glbEvtRoute | refusalLog
  | spaceCfg (s : SpaceNo)
  /-- The half of a writable 64-bit register at its lower offset. -/
  | low (r : Reg64)
  /-- The half of a writable 64-bit register at its higher offset. -/
  | high (r : Reg64)
  | sqSize (c : ChanNo) | cqSize (c : ChanNo) | bind (c : ChanNo) | waitMask (c : ChanNo)
  | evtRoute (c : ChanNo) | coalesce (c : ChanNo)
  /-- CH_CMD or CH_CTL of channel c. -/
  | command (p : CmdPort) (c : ChanNo)
  | markSet (c : ChanNo)
  | sqTail (c : ChanNo) | sqHead (c : ChanNo) | cqHead (c : ChanNo) | cqTail (c : ChanNo)
  | chState (c : ChanNo) | chCmdResult (c : ChanNo) | mark (c : ChanNo) | evtPending (c : ChanNo)
  | evtMask (c : ChanNo) | progress (c : ChanNo) | flushed (c : ChanNo) | faultCause (c : ChanNo)
  | faultIndex (c : ChanNo) | faultElement (c : ChanNo)
  | faultAddrLo (c : ChanNo) | faultAddrHi (c : ChanNo) | faultEntryLo (c : ChanNo) | faultEntryHi (c : ChanNo)
deriving DecidableEq, Repr

/-- The event set a W1C write addresses (R172). -/
inductive EventSet where
  /-- EVT_PENDING of channel window c. -/
  | channel (c : ChanNo)
  /-- GLB_EVT_PENDING. -/
  | global
deriving DecidableEq, Repr

/-- A transaction outstanding on the initiator port (R123), named by its issuer and its place in that issuer's
order of issue, 0 being the oldest. -/
inductive TxnRef where
  /-- The k-th outstanding transaction of a lane. -/
  | lane (l : LaneNo) (k : Nat)
  /-- The walker's table read or exchange. -/
  | walker
  /-- The k-th outstanding ring read or record write of a channel. -/
  | ring (c : ChanNo) (k : Nat)
deriving DecidableEq, Repr

/-- How an exchange transaction ended (introduction, "External connections"; R132, R133). -/
inductive ExchangeResult where
  /-- OK response, the comparison succeeded. -/
  | swapped
  /-- OK response, the comparison failed. -/
  | mismatch
  /-- Error response. -/
  | error
deriving DecidableEq, Repr

/-- The commands of the block: register accesses, answers of the memory system, the reset pin, the tick, and the
engine's internal events, one constructor per row of spec/opcode_table.json. A read's answer is `some` data with an
OK response and `none` with an error response. -/
inductive Instr where
  /-- RESET_N goes low (R177). -/
  | powerOnReset
  /-- RESET_N is released (R177). -/
  | resetNRelease
  /-- An access of `bytes` bytes at window offset `off` that breaks R4; `isWrite` says which way it goes. -/
  | illegalSizeAccess (isWrite : Bool) (off : BitVec 16) (bytes : Nat)
  /-- A 32-bit write of `data` at window offset `off` (R3, R7). -/
  | registerWrite (off : BitVec 16) (data : BitVec 32)
  /-- A write to the low half of a writable 64-bit register (R8). -/
  | stageLowHalf (r : Reg64) (data : BitVec 32)
  /-- A write to the high half of a writable 64-bit register (R9). -/
  | commitHighHalf (r : Reg64) (data : BitVec 32)
  /-- A write to REFUSAL_LOG (R15). -/
  | refusalLogClear (data : BitVec 32)
  /-- A W1C write to EVT_PENDING or GLB_EVT_PENDING (R172). -/
  | eventPendingClear (set : EventSet) (data : BitVec 32)
  /-- A write to LANE_ENABLE (R112). -/
  | laneEnable (data : BitVec 32)
  /-- A write to INVAL_CTL with GO = 1 (R141). -/
  | invalGo (scope : BitVec 2) (sid : SpaceNo)
  /-- A write to ENG_CTL with SOFT_RESET = 1 (R178), and the other two bits of the same write. -/
  | softReset (dozeReq autoWake : Bool)
  /-- A write to ENG_CTL with DOZE_REQ = 1 and SOFT_RESET = 0 (R181). -/
  | dozeReqSet (autoWake : Bool)
  /-- A write to ENG_CTL with DOZE_REQ = 0 and SOFT_RESET = 0 (R181). -/
  | dozeReqClear (autoWake : Bool)
  /-- A write to SQ_TAIL (R42). -/
  | doorbell (c : ChanNo) (data : BitVec 32)
  /-- A write to CQ_HEAD (R46). -/
  | cqHeadWrite (c : ChanNo) (data : BitVec 32)
  /-- A write to MARK_SET (R161). -/
  | markSet (c : ChanNo) (data : BitVec 32)
  /-- Command 1 (R31). -/
  | cmdPause (c : ChanNo) (p : CmdPort)
  /-- Command 2 (R33). -/
  | cmdContinue (c : ChanNo) (p : CmdPort)
  /-- Command 3 (R34, R153, R154). -/
  | cmdResume (c : ChanNo) (p : CmdPort)
  /-- Command 4 (R34, R155). -/
  | cmdFail (c : ChanNo) (p : CmdPort)
  /-- Command 5 (R35, R156). -/
  | cmdAbort (c : ChanNo) (p : CmdPort)
  /-- Command 6 (R34, R54). -/
  | cmdFlush (c : ChanNo) (p : CmdPort)
  /-- Command 0x10, accepted by CH_CTL only (R29, R30). -/
  | cmdEnable (c : ChanNo)
  /-- Command 0x11, accepted by CH_CTL only (R32). -/
  | cmdDisable (c : ChanNo)
  /-- Command 0x12, accepted by CH_CTL only (R36). -/
  | cmdReset (c : ChanNo)
  /-- A command code the written register does not accept (R28). -/
  | unknownCommand (c : ChanNo) (p : CmdPort) (code : BitVec 8)
  /-- The end of a tick (R169). -/
  | tickBoundary
  /-- The expiry of a transaction's timeout (R123). -/
  | busTimeoutExpiry (t : TxnRef)
  /-- The expiry of a WAIT of channel c (R165). -/
  | waitTimeout (c : ChanNo)
  /-- The expiry of channel c's coalescing timer (R174). -/
  | coalescingTimerExpiry (c : ChanNo)
  /-- A channel leaves IDLE or WAITING_SLOT on its own account (R20). -/
  | fetchStart (c : ChanNo)
  /-- A FETCHING channel issues its order read (R48). -/
  | ringReadIssue (c : ChanNo)
  /-- The response to the k-th outstanding ring transaction of channel c, an order read (R48). -/
  | ringReadResponse (c : ChanNo) (k : Nat) (data : Option (BitVec 512))
  /-- A COMPLETING channel issues its record write (R50). -/
  | completionWriteIssue (c : ChanNo)
  /-- The response to the k-th outstanding ring transaction of channel c, a record write (R50). -/
  | completionWriteResponse (c : ChanNo) (k : Nat) (ok : Bool)
  /-- One grant of the Lane Scheduler (R113). -/
  | laneGrant
  /-- A granted lane takes over its order (R116). -/
  | laneTakeover (l : LaneNo)
  /-- The response to the k-th outstanding transaction of lane l, a pointer read (R84). -/
  | pointerReadResponse (l : LaneNo) (k : Nat) (data : Option (BitVec 64))
  /-- The response to the k-th outstanding transaction of lane l, a data read (R118). -/
  | laneReadResponse (l : LaneNo) (k : Nat) (data : Option (BitVec 64))
  /-- The response to the k-th outstanding transaction of lane l, a data write (R120). -/
  | laneWriteResponse (l : LaneNo) (k : Nat) (ok : Bool)
  /-- The transactions of a beat's phase have ended (R118, R119). -/
  | beatEnd (l : LaneNo)
  /-- A lane hands back an order that ended without a fault (R121). -/
  | orderEnd (l : LaneNo)
  /-- A settled lane hands a fault to its channel (R122 step 3). -/
  | faultHandover (l : LaneNo)
  /-- A draining lane has nothing outstanding (R124). -/
  | drainEnd (l : LaneNo)
  /-- The walker takes the next queued walk (R135, R139). -/
  | walkStart
  /-- The response to the walker's table read (R129). -/
  | tableReadResponse (data : Option (BitVec 64))
  /-- The response to the walker's exchange (R133). -/
  | exchangeResponse (r : ExchangeResult)
  /-- The invalidation in progress ends (R143). -/
  | invalDone
  /-- The Synchroniser resolves a satisfied WAIT of channel c (R164). -/
  | waitSatisfied (c : ChanNo)
  /-- The wake that follows the resolution of a WAIT in DOZE (R183). -/
  | wake
  /-- The end of a channel reset (R37). -/
  | channelResetEnd (c : ChanNo)
  /-- The end of a soft reset (R179). -/
  | softResetEnd
  /-- The engine becomes quiescent in DOZE_ENTRY (R181). -/
  | dozeEntered
deriving DecidableEq, Repr

end Sys2Proof
end

