-- ==== Sys2Proof/Decode.lean ====
section
/-! DEFINITION. Decoding: the offsets of the register window (R3), and the host's `decodeTableWord`. The table
gives no row any bits, so no word spells a command. -/

namespace Sys2Proof

/-- The registers of the global window below 0x100. -/
def decodeEngineOffset (off : Nat) : Option Reg :=
  match off with
  | 0x000 => some .engId
  | 0x004 => some .engCtl
  | 0x008 => some .engStatus
  | 0x00C => some .resetCause
  | 0x010 => some .tickDiv
  | 0x014 => some .tickCount
  | 0x018 => some .busTimeout
  | 0x01C => some .laneEnable
  | 0x020 => some .laneStatus
  | 0x024 => some .agingLimit
  | 0x030 => some .invalCtl
  | 0x034 => some .invalStatus
  | 0x038 => some (.low .invalAddr)
  | 0x03C => some (.high .invalAddr)
  | 0x040 => some .glbEvtPending
  | 0x044 => some .glbEvtMask
  | 0x048 => some .glbEvtRoute
  | 0x050 => some .refusalLog
  | _ => none

/-- The registers of the descriptor of space s, by offset within its 16 bytes; 0x4 is unassigned. -/
def decodeSpaceOffset (s : SpaceNo) (off : Nat) : Option Reg :=
  match off with
  | 0x0 => some (.spaceCfg s)
  | 0x8 => some (.low (.spaceRoot s))
  | 0xC => some (.high (.spaceRoot s))
  | _ => none

/-- The registers of the CHCFG[c] block, by offset within its 64 bytes; 0x30 to 0x3F are unassigned. -/
def decodeConfigOffset (c : ChanNo) (off : Nat) : Option Reg :=
  match off with
  | 0x00 => some (.low (.sqBase c))
  | 0x04 => some (.high (.sqBase c))
  | 0x08 => some (.sqSize c)
  | 0x0C => some (.low (.cqBase c))
  | 0x10 => some (.high (.cqBase c))
  | 0x14 => some (.cqSize c)
  | 0x18 => some (.bind c)
  | 0x1C => some (.waitMask c)
  | 0x20 => some (.evtRoute c)
  | 0x24 => some (.coalesce c)
  | 0x28 => some (.command .chCtl c)
  | 0x2C => some (.markSet c)
  | _ => none

/-- The registers of channel window c, by offset within its 4 KiB; 0x3C and 0x50 onward are unassigned. -/
def decodeWindowOffset (c : ChanNo) (off : Nat) : Option Reg :=
  match off with
  | 0x00 => some (.sqTail c)
  | 0x04 => some (.sqHead c)
  | 0x08 => some (.cqHead c)
  | 0x0C => some (.cqTail c)
  | 0x10 => some (.chState c)
  | 0x14 => some (.command .chCmd c)
  | 0x18 => some (.chCmdResult c)
  | 0x1C => some (.mark c)
  | 0x20 => some (.evtPending c)
  | 0x24 => some (.evtMask c)
  | 0x28 => some (.progress c)
  | 0x2C => some (.flushed c)
  | 0x30 => some (.faultCause c)
  | 0x34 => some (.faultIndex c)
  | 0x38 => some (.faultElement c)
  | 0x40 => some (.faultAddrLo c)
  | 0x44 => some (.faultAddrHi c)
  | 0x48 => some (.faultEntryLo c)
  | 0x4C => some (.faultEntryHi c)
  | _ => none

/-- The register location an aligned window offset addresses (R3), `none` where the offset is unassigned (R5). -/
def decodeOffset (o : BitVec 16) : Option Reg :=
  let off := o.toNat
  if off < 0x100 then decodeEngineOffset off
  else if off < 0x200 then decodeSpaceOffset (Fin.ofNat 16 ((off - 0x100) / 0x10)) (off % 0x10)
  else if off < 0x400 then decodeConfigOffset (Fin.ofNat 8 ((off - 0x200) / 0x40)) (off % 0x40)
  else if off < 0x1000 then none
  else if off < 0x9000 then decodeWindowOffset (Fin.ofNat 8 ((off - 0x1000) / 0x1000)) (off % 0x1000)
  else none

/-- Whether a command register accepts a command code (the command table of section 2.3). -/
def CmdPort.accepts (p : CmdPort) (code : BitVec 8) : Bool :=
  decide (1 ≤ code.toNat ∧ code.toNat ≤ 6) ||
    (p == .chCtl && decide (0x10 ≤ code.toNat ∧ code.toNat ≤ 0x12))

/-- The command an opcode-table word spells: the table gives no row any bits, so there is none. -/
def decodeTableWord (_nbits _w : Nat) : Option Instr := none

end Sys2Proof
end

