-- ==== Sys2Proof/Config.lean ====
section
/-! DEFINITION. What the HT-480 fixes once: the sizes of its buffers, queues and limits. The manual leaves no
value of an instruction open, so there is no free value here (notes/assumptions/14.md). -/

namespace Sys2Proof.Config

/-- Most transactions one lane has outstanding (R117 item 3). -/
def laneTransactions : Nat := 8

/-- Most processing positions of one beat (R116). -/
def beatPositions : Nat := 32

/-- Slots of the translation cache (R136). -/
def cacheSlots : Nat := 32

/-- The compare failure that ends a walk with WALK_CONTENTION (R133). -/
def compareFailureLimit : Nat := 4

/-- The largest COUNT of an order (R60). -/
def maxCount : Nat := 16777215

/-- The digest modulus, the largest prime below 2^16 (R106). -/
def digestModulus : Nat := 65519

/-- The first address past the 40-bit engine virtual space (R82, R87). -/
def evaEnd : Nat := 2 ^ 40

/-- The first address past the 44-bit physical space (R29). -/
def paEnd : Nat := 2 ^ 44

/-- ENG_ID as the global window table gives it (chapter 1). -/
def engId : BitVec 32 := 0x04800100#32

end Sys2Proof.Config
end

