-- ==== Sys2Proof/Machine/State.lean ====
section
/-! DEFINITION. The state of the HT-480 as plain data, its two ways to stop, and the state after power-on reset.
Each field names the rule of the manual that gives it. -/

namespace Sys2Proof.Machine

/-- Faults of the model. The manual gives every command an effect in every state, so nothing raises one (safe). -/
inductive Fault where
  /-- Raised by no meaning: kept so that the type of faults has a member (safe; notes/assumptions/14.md). -/
  | never
deriving DecidableEq, Repr

/-- Refusals of the model. -/
inductive Refusal where
  /-- Raised by a dispatch arm that has no meaning yet; no arm does (safe). -/
  | notModelled (mnemonic : String)
deriving DecidableEq, Repr

/-- The twelve channel states (section 2.2). -/
inductive ChState where
  | disabled | idle | waitingSlot | fetching | queued | running | syncWait | completing
  | stopped | faulted | wedged | clearing
deriving DecidableEq, Repr

/-- The completion statuses (R146). -/
inductive Status where
  | ok | aborted | faultUnresolved | invalidKind | reservedNonzero | invalidField | denied
  | shapeException | waitTimeout | waitSelf
deriving DecidableEq, Repr

/-- The fault causes (R147); `none` is code 0. -/
inductive Cause where
  | none | notMapped | readDenied | writeDenied | ownerOnly | entryMalformed | flagClear | walkContention
  | addressRange | busErrorData | busErrorWalk | busTimeout | ringReadError | completionWriteError
deriving DecidableEq, Repr

/-- The access kinds (R147); `none` is code 0. -/
inductive AccessKind where
  | none | srcPointer | srcData | dstPointer | dstData | ring | completion
deriving DecidableEq, Repr

/-- The results of a command (section 2.3). -/
inductive CmdResult where
  | done | wrongState | busy | configInvalid | unknownCommand
deriving DecidableEq, Repr

/-- The power states (chapter 12). -/
inductive PowerState where
  | run | dozeEntry | doze | resetting
deriving DecidableEq, Repr

/-- The causes of the last engine reset (chapter 1, RESET_CAUSE). -/
inductive ResetCause where
  | powerOn | soft
deriving DecidableEq, Repr

/-- The response of the target port to an access (R3). -/
inductive PortResponse where
  | ok | error
deriving DecidableEq, Repr

/-- A set of the three shaping flags: an element's flag set (R96) or an order's sticky flags (R102). -/
structure ShapeFlags where
  inexact : Bool := false
  saturated : Bool := false
  wrapped : Bool := false
deriving DecidableEq, Repr

/-- The progress of an order (R18): processing positions complete, sticky flags, digest state, direction. -/
structure Progress where
  /-- Processing positions complete (R120). -/
  count : Nat := 0
  /-- The sticky flags (R102). -/
  flags : ShapeFlags := {}
  /-- The digest sum A (R106). -/
  digestA : Nat := 0
  /-- The digest sum B (R106). -/
  digestB : Nat := 0
  /-- The engine chose descending processing (R92). -/
  down : Bool := false
deriving DecidableEq, Repr

/-- The fault record (section 9.2). -/
structure FaultRecord where
  cause : Cause := .none
  prior : Cause := .none
  access : AccessKind := .none
  level : BitVec 2 := 0
  count : BitVec 8 := 0
  index : BitVec 16 := 0
  element : BitVec 24 := 0
  addr : Pa := 0
  entry : Pa := 0
deriving DecidableEq, Repr

/-- The CHCFG[c] registers that hold state (section 1.1). -/
structure ChannelConfig where
  sqBase : Pa := 0
  sqSize : BitVec 4 := 0
  cqBase : Pa := 0
  cqSize : BitVec 4 := 0
  /-- BIND.SID. -/
  sid : SpaceNo := 0
  /-- BIND.TRUST: owner when true, guest when false. -/
  trust : Bool := false
  /-- BIND.PRIORITY. -/
  priority : BitVec 2 := 0
  /-- BIND.STOP_ON_ERROR. -/
  stopOnError : Bool := false
  /-- BIND.EVENT_ALL. -/
  eventAll : Bool := false
  waitMask : BitVec 8 := 0
  evtRoute : BitVec 2 := 0
  /-- COALESCE.THRESHOLD. -/
  threshold : BitVec 8 := 1
  /-- COALESCE.TIMER. -/
  timer : BitVec 16 := 0
deriving DecidableEq, Repr

/-- What a channel's sequencer can have outstanding on the initiator port (R40). -/
inductive RingKind where
  /-- The 64-byte order read (R48). -/
  | read
  /-- The 32-byte record write with the record it carries (R50, R51). -/
  | write (record : BitVec 256)
deriving DecidableEq, Repr

/-- One outstanding transaction of a channel sequencer. -/
structure RingTxn where
  kind : RingKind
  addr : Pa
  /-- The timeout taken at the issue (R123). -/
  timeout : BitVec 16
  /-- Tick boundaries since the issue (R123). -/
  age : Nat := 0
  /-- The channel still waits for it; a read or write a command left behind is not live (R21, R36). -/
  live : Bool := true
deriving DecidableEq, Repr

/-- A wait entry of the Synchroniser (R162). -/
structure WaitEntry where
  target : ChanNo
  threshold : BitVec 32
  timeout : BitVec 32
  ticks : Nat := 0
deriving DecidableEq, Repr

/-- A running coalescing timer (R174). -/
structure CoalesceTimer where
  length : BitVec 16
  ticks : Nat := 0
deriving DecidableEq, Repr

/-- The context of one channel (section 2.1) with its configuration block. The lane a channel holds is the lane
that names it as owner; the slot reservation is implied by the state (R18). -/
structure Channel where
  cfg : ChannelConfig := {}
  state : ChState := .disabled
  pausePending : Bool := false
  abortPending : Bool := false
  sqHead : BitVec 16 := 0
  sqTail : BitVec 16 := 0
  cqHead : BitVec 16 := 0
  cqTail : BitVec 16 := 0
  lap : Bool := false
  /-- The 64-byte copy of the current order, byte 0 in bits 7..0 (R48). -/
  order : Option (BitVec 512) := none
  progress : Progress := {}
  /-- The status fixed on entry to COMPLETING (R146). -/
  status : Status := .ok
  /-- The RESULT a MARK or a WAIT has fixed (R160, R163). -/
  result : BitVec 32 := 0
  /-- The current record follows a fault (R158). -/
  afterFault : Bool := false
  fault : FaultRecord := {}
  cmdResult : CmdResult := .done
  flushed : BitVec 16 := 0
  /-- Outstanding order reads and record writes, oldest first. -/
  ring : List RingTxn := []
  /-- The mark counter (R159). -/
  mark : BitVec 32 := 0
  /-- The wait entry of a channel in SYNC_WAIT (R162). -/
  wait : Option WaitEntry := none
  evtPending : BitVec 7 := 0
  evtMask : BitVec 7 := 0
  /-- The coalescing counter (R173). -/
  coalesceCount : BitVec 8 := 0
  /-- The coalescing timer, when it runs (R174). -/
  coalesceTimer : Option CoalesceTimer := none
  /-- The pass-over count of the Lane Scheduler (R115). -/
  passOver : BitVec 8 := 0
deriving DecidableEq, Repr

/-- The six lane states (R110). -/
inductive LaneState where
  | free | disabled | loading | reading | writing | draining
deriving DecidableEq, Repr

/-- A portion of an element or a table entry (R88): its address, its place in the element, its bytes. -/
structure Portion where
  eva : Eva
  off : Nat
  len : Nat
deriving DecidableEq, Repr

/-- A translated portion whose transaction is not issued yet. `old`: the translation precedes the invalidation in
progress (R143). -/
structure HeldPortion where
  portion : Portion
  pa : Pa
  old : Bool := false
deriving DecidableEq, Repr

/-- Where a lane stands in the address steps of the position it takes (R90). -/
inductive Cursor where
  /-- No step of the position is taken yet. -/
  | begin
  /-- Translating the portions of one access: those translated, those to translate (R117 item 2). -/
  | translate (kind : AccessKind) (done : List HeldPortion) (todo : List Portion)
  /-- Every portion is translated; these are still to be issued (R117 item 3). -/
  | issue (kind : AccessKind) (ready : List HeldPortion)
  /-- The pointer read is issued; the element address waits for its data (R117 item 4). -/
  | pointer
deriving DecidableEq, Repr

/-- One outstanding transaction of a lane (R117). -/
structure LaneTxn where
  /-- The processing position it serves. -/
  pos : Nat
  kind : AccessKind
  portion : Portion
  pa : Pa
  /-- The bytes a write carries, the byte at `pa` in bits 7..0; 0 for a read. -/
  data : BitVec 64
  timeout : BitVec 16
  age : Nat := 0
  old : Bool := false
deriving DecidableEq, Repr

/-- The shaped bytes of an element, first byte in bits 7..0, and its flag set (R101). -/
structure Shaped where
  bytes : BitVec 64
  flags : ShapeFlags
deriving DecidableEq, Repr

/-- The place of one processing position in a beat and in the beat buffer (section 7.3). -/
structure BeatSlot where
  /-- The source bytes received so far, by place. -/
  raw : BitVec 64 := 0
  /-- Read portions without their OK response; `none` before the access is formed. -/
  readsLeft : Option Nat := none
  /-- The position has been shaped and has not failed strictly (R118). -/
  isShaped : Bool := false
  /-- The beat buffer's content for the position. -/
  shaped : Option Shaped := none
  /-- Write portions without their OK response; `none` before the access is formed. -/
  writesLeft : Option Nat := none
deriving DecidableEq, Repr

/-- A fault a lane has met (R126, R89, R148). -/
structure FaultInfo where
  cause : Cause
  access : AccessKind
  level : BitVec 2
  element : Nat
  addr : Pa
  entry : Pa
deriving DecidableEq, Repr

/-- The failure a lane settles (R122): its position, its portion, and the fault, `none` for a strict failure. -/
structure Failure where
  pos : Nat
  /-- 0 for the lower portion, 1 for the upper (R151). -/
  portion : Nat := 0
  fault : Option FaultInfo
deriving DecidableEq, Repr

/-- A transfer lane (section 7.1). The fields after `owner` carry meaning while the lane is busy.
DESIGN CHOICE: what they hold otherwise (notes/assumptions/18.md). -/
structure Lane where
  state : LaneState := .free
  owner : Option ChanNo := none
  /-- The abort latch (R124). -/
  abort : Bool := false
  order : BitVec 512 := 0
  sid : SpaceNo := 0
  trust : Bool := false
  progress : Progress := {}
  /-- The first position of the beat (R116). -/
  beatStart : Nat := 0
  /-- The positions of the beat: the beat buffer of 256 bytes and what each position waits for. -/
  slots : List BeatSlot := []
  /-- The place in the beat of the position whose steps are taken (R117). -/
  place : Nat := 0
  cursor : Cursor := .begin
  /-- Pointer read portions without their OK response. -/
  ptrLeft : Nat := 0
  /-- The pointer bytes received so far. -/
  ptrRaw : BitVec 64 := 0
  /-- Outstanding transactions, oldest first (R117). -/
  txns : List LaneTxn := []
  /-- A translation request is outstanding (R117). -/
  request : Bool := false
  /-- The failure being settled (R122). -/
  failure : Option Failure := none
deriving DecidableEq, Repr

/-- A space descriptor (section 8.1). -/
structure Space where
  mode : BitVec 2 := 0
  flagUpdate : Bool := false
  /-- Bits 43..12 of SPACE_ROOT. -/
  root : BitVec 32 := 0
deriving DecidableEq, Repr

/-- An entry of the translation cache (R136). -/
structure CacheEntry where
  sid : SpaceNo
  /-- EVA bits 39..12 of the region's first page. -/
  page : BitVec 28
  /-- SIZE is 2 MiB. -/
  block : Bool
  frame : Pa
  read : Bool
  write : Bool
  ownerOnly : Bool
  modKnown : Bool
deriving DecidableEq, Repr

/-- A translation request attached to a walk (R126, R139). -/
structure WalkRequest where
  lane : LaneNo
  write : Bool
  eva : Eva
  trust : Bool
  kind : AccessKind
  /-- Its lane has abandoned it (R140). -/
  abandoned : Bool := false
deriving DecidableEq, Repr

/-- A walk, waiting or in progress (R139). -/
structure Walk where
  sid : SpaceNo
  page : BitVec 28
  requests : List WalkRequest
  stale : Bool := false
  compareFails : Nat := 0
deriving DecidableEq, Repr

/-- What the walker waits for (R135). -/
inductive WalkPhase where
  /-- The read of the entry at `entry`, of the given level. -/
  | reading (level : Nat) (entry : Pa)
  /-- The exchange on the leaf at `entry`, read as `leaf`, with its new value. -/
  | exchanging (level : Nat) (entry : Pa) (leaf new : BitVec 64)
deriving DecidableEq, Repr

/-- The walk in progress and its transaction. -/
structure Walker where
  walk : Walk
  phase : WalkPhase
  timeout : BitVec 16
  age : Nat := 0
deriving DecidableEq, Repr

/-- INVAL_CTL, INVAL_ADDR, INVAL_STATUS (section 8.7). -/
structure Inval where
  scope : BitVec 2 := 0
  sid : SpaceNo := 0
  addr : Eva := 0
  busy : Bool := false
  requestsDone : BitVec 8 := 0
deriving DecidableEq, Repr

/-- REFUSAL_LOG (R14). -/
structure RefusalLog where
  valid : Bool := false
  reason : BitVec 3 := 0
  offset : BitVec 16 := 0
  count : BitVec 8 := 0
deriving DecidableEq, Repr

/-- The follow-on steps a step has called for and that are not all taken yet (R1). -/
inductive FollowOn where
  /-- The ring read or record write that channel c issues as it enters FETCHING or COMPLETING (R20, R50). -/
  | issue (c : ChanNo)
  /-- The expiries of a tick boundary (R169). -/
  | expiries
  /-- The evaluations of the waits on counter t (R164). -/
  | waits (t : ChanNo)
  /-- The wake after the resolution of a WAIT in DOZE (R183). -/
  | wake
  /-- The transition of channel c that R27 held (R183). -/
  | held (c : ChanNo)
  /-- Grant decisions (R113). -/
  | grants
  /-- The start of the walker's next walk (R135). -/
  | walk
deriving DecidableEq, Repr

/-- The state of the engine. -/
structure State where
  /-- Commands waiting, first in, first out. DESIGN CHOICE: the model's own field (notes/assumptions/1.md). -/
  pending : List Instr := []
  /-- Follow-on steps still owed, the next first. DESIGN CHOICE: the model's own field for the order of R1
  (notes/assumptions/3.md). -/
  agenda : List FollowOn := []
  /-- RESET_N is high. -/
  resetN : Bool := true
  /-- The response of the target port to the last access (R3). DESIGN CHOICE (notes/assumptions/15.md). -/
  port : Option PortResponse := none
  power : PowerState := .run
  resetCause : ResetCause := .powerOn
  /-- ENG_CTL.DOZE_REQ. -/
  dozeReq : Bool := false
  /-- ENG_CTL.AUTO_WAKE. -/
  autoWake : Bool := false
  tickDiv : BitVec 16 := 99
  /-- The tick in progress: its length setting; `none` while the generator is stopped (R168). DESIGN CHOICE: the clock
  that counts it down is left out (notes/assumptions/9.md). -/
  tick : Option (BitVec 16) := some 99
  tickCount : BitVec 32 := 0
  busTimeout : BitVec 16 := 1000
  laneEnable : BitVec 4 := 15
  agingLimit : BitVec 8 := 8
  /-- The round-robin pointer (R115). -/
  roundRobin : ChanNo := 7
  /-- The staging half (R8). -/
  staging : BitVec 32 := 0
  refusalLog : RefusalLog := {}
  glbPending : BitVec 4 := 0
  glbMask : BitVec 4 := 0
  glbRoute : BitVec 2 := 0
  spaces : Vector Space 16 := Vector.replicate 16 {}
  /-- The translation cache with its recency order, most recent first (R136). DESIGN CHOICE: no slot numbers
  (notes/assumptions/13.md). -/
  cache : List CacheEntry := []
  /-- The walk queue, head first (R139). -/
  walkQueue : List Walk := []
  walker : Option Walker := none
  inval : Inval := {}
  channels : Vector Channel 8 := Vector.replicate 8 {}
  lanes : Vector Lane 4 := Vector.replicate 4 {}
deriving DecidableEq, Repr

/-- The engine after a power-on reset and the release of RESET_N (R177, R180). -/
def State.reset : State := {}

end Sys2Proof.Machine
end

