-- ==== Sys2Proof/Machine/Operands.lean ====
section
/-! DEFINITION. The operand forms of the engine: the fields of a transfer order (chapter 4), its validation, walk
descriptors and the addresses they generate (chapter 5). An order is 512 bits, byte b in bits 8b+7..8b (R2, R56). -/

namespace Sys2Proof.Machine

/-! ## The order record (R56, R62) -/

/-- KIND. -/
def ordKind (o : BitVec 512) : BitVec 8 := o.extractLsb' 0 8
/-- FLAGS.QUIET. -/
def ordQuiet (o : BitVec 512) : Bool := o.getLsbD 8
/-- FLAGS.EVENT. -/
def ordEvent (o : BitVec 512) : Bool := o.getLsbD 9
/-- SRC_FMT. -/
def ordSrcFmt (o : BitVec 512) : BitVec 4 := o.extractLsb' 16 4
/-- DST_FMT. -/
def ordDstFmt (o : BitVec 512) : BitVec 4 := o.extractLsb' 20 4
/-- ROUND. -/
def ordRound (o : BitVec 512) : BitVec 2 := o.extractLsb' 24 2
/-- SATURATE. -/
def ordSaturate (o : BitVec 512) : Bool := o.getLsbD 26
/-- SRC_SWAP. -/
def ordSrcSwap (o : BitVec 512) : Bool := o.getLsbD 27
/-- DST_SWAP. -/
def ordDstSwap (o : BitVec 512) : Bool := o.getLsbD 28
/-- COUNT. -/
def ordCount (o : BitVec 512) : Nat := (o.extractLsb' 32 32).toNat
/-- TAG. -/
def ordTag (o : BitVec 512) : BitVec 32 := o.extractLsb' 64 32
/-- SCALE, signed. -/
def ordScale (o : BitVec 512) : Int := (o.extractLsb' 96 8).toInt
/-- STRICT. -/
def ordStrict (o : BitVec 512) : ShapeFlags :=
  { inexact := o.getLsbD 104, saturated := o.getLsbD 105, wrapped := o.getLsbD 106 }
/-- The source walk descriptor, bytes 16 to 31. -/
def ordSrcWalk (o : BitVec 512) : BitVec 128 := o.extractLsb' 128 128
/-- The destination walk descriptor, bytes 32 to 47. -/
def ordDstWalk (o : BitVec 512) : BitVec 128 := o.extractLsb' 256 128
/-- FILL's PATTERN, bytes 48 to 55. -/
def ordPattern (o : BitVec 512) : BitVec 64 := o.extractLsb' 384 64
/-- FILL's STEP, bytes 56 to 63. -/
def ordStep (o : BitVec 512) : BitVec 64 := o.extractLsb' 448 64
/-- DIGEST's SEED, bytes 48 to 51. -/
def ordSeed (o : BitVec 512) : BitVec 32 := o.extractLsb' 384 32
/-- MARK's ADD, bytes 48 and 49. -/
def ordAdd (o : BitVec 512) : BitVec 16 := o.extractLsb' 384 16
/-- WAIT's TARGET, byte 48. -/
def ordTarget (o : BitVec 512) : BitVec 8 := o.extractLsb' 384 8
/-- WAIT's THRESHOLD, bytes 52 to 55. -/
def ordThreshold (o : BitVec 512) : BitVec 32 := o.extractLsb' 416 32
/-- WAIT's TIMEOUT, bytes 56 to 59. -/
def ordTimeout (o : BitVec 512) : BitVec 32 := o.extractLsb' 448 32

/-- The six order kinds (R57). -/
inductive OrderKind where
  | move | fill | digest | mark | wait | note
deriving DecidableEq, Repr

/-- The kind a KIND code names (R57). -/
def orderKind (o : BitVec 512) : Option OrderKind :=
  match (ordKind o).toNat with
  | 1 => some .move
  | 2 => some .fill
  | 3 => some .digest
  | 4 => some .mark
  | 5 => some .wait
  | 6 => some .note
  | _ => none

/-- MOVE, FILL and DIGEST are the data-moving kinds (R57). -/
def OrderKind.movesData : OrderKind → Bool
  | .move | .fill | .digest => true
  | _ => false

/-- The kinds that use a source walk, SRC_FMT, SCALE and STRICT (R61). -/
def OrderKind.usesSource : OrderKind → Bool
  | .move | .digest => true
  | _ => false

/-- The kinds that use a destination walk (R61). -/
def OrderKind.usesDest : OrderKind → Bool
  | .move | .fill => true
  | _ => false

/-- The size in bytes of a format code (R95). -/
def fmtSize (f : BitVec 4) : Nat := 2 ^ ((f.toNat / 2) % 4)

/-- Whether a format code names a signed format (R95). -/
def fmtSigned (f : BitVec 4) : Bool := f.getLsbD 0

/-! ## Walk descriptors (R76) -/

/-- BASE. -/
def walkBase (w : BitVec 128) : Eva := w.extractLsb' 0 40
/-- MODE: LINEAR 0, STRIDED 1, BLOCKED 2, INDEXED 3. -/
def walkMode (w : BitVec 128) : BitVec 2 := w.extractLsb' 40 2
/-- DIRECTION: ASC 0, DESC 1, AUTO 2. -/
def walkDir (w : BitVec 128) : BitVec 2 := w.extractLsb' 42 2
/-- PTR_WIDTH: SHORT 0, MEDIUM 1, FULL 2. -/
def walkPtrWidth (w : BitVec 128) : BitVec 2 := w.extractLsb' 44 2
/-- CONFINE. -/
def walkConfine (w : BitVec 128) : BitVec 8 := w.extractLsb' 48 8
/-- PARAM_A, signed. -/
def walkParamA (w : BitVec 128) : Int := (w.extractLsb' 64 32).toInt
/-- PARAM_B. -/
def walkParamB (w : BitVec 128) : BitVec 32 := w.extractLsb' 96 32
/-- The run of a BLOCKED walk. -/
def walkRun (w : BitVec 128) : Nat := (w.extractLsb' 96 16).toNat
/-- Whether the walk is INDEXED. -/
def walkIndexed (w : BitVec 128) : Bool := walkMode w == 3
/-- The pointer width P in bytes. -/
def walkPtrBytes (w : BitVec 128) : Nat := 2 * 2 ^ (walkPtrWidth w).toNat

/-! ## Validation (R63 to R68) -/

/-- Whether a field of an order is zero. -/
def zeroAt (o : BitVec 512) (lo n : Nat) : Bool := o.extractLsb' lo n == 0

/-- The RESERVED_NONZERO conditions of a used walk (R66). -/
def walkReservedBad (w : BitVec 128) : Bool :=
  w.extractLsb' 46 2 != 0 || w.extractLsb' 56 8 != 0 ||
  match (walkMode w).toNat with
  | 0 => walkPtrWidth w != 0 || w.extractLsb' 64 32 != 0 || walkParamB w != 0
  | 1 => walkPtrWidth w != 0 || walkParamB w != 0
  | 2 => walkPtrWidth w != 0 || w.extractLsb' 112 16 != 0
  | _ => false

/-- The plane of an INDEXED walk is wider than its PTR_WIDTH allows (R66). -/
def planeTooWide (w : BitVec 128) : Bool :=
  match (walkPtrWidth w).toNat with
  | 0 => (walkParamB w).extractLsb' 24 8 != 0
  | 1 => (walkParamB w).extractLsb' 8 24 != 0
  | _ => walkParamB w != 0

/-- The INVALID_FIELD conditions of a used walk (R66); `autoOk` says that the auto conditions of R67 hold. -/
def walkFieldBad (autoOk : Bool) (w : BitVec 128) : Bool :=
  walkDir w == 3 || decide (5 < (walkConfine w).toNat) ||
  match (walkMode w).toNat with
  | 0 => walkDir w == 2 && !autoOk
  | 1 => walkDir w == 1 || walkDir w == 2
  | 2 => walkDir w == 1 || walkDir w == 2 || walkRun w == 0
  | _ => walkDir w == 2 || walkPtrWidth w == 3 || planeTooWide w

/-- The reserved bits of every kind (R65, first four rows). -/
def reservedBad (o : BitVec 512) : Bool :=
  !(zeroAt o 10 6 && zeroAt o 29 3 && zeroAt o 107 5 && zeroAt o 112 16)

/-- Check 2 of R64 for an order of a kind (R65). -/
def reservedNonzero (k : OrderKind) (o : BitVec 512) : Bool :=
  reservedBad o ||
  match k with
  | .move => walkReservedBad (ordSrcWalk o) || walkReservedBad (ordDstWalk o) || !zeroAt o 384 128
  | .fill =>
      !(zeroAt o 16 4 && zeroAt o 24 2 && zeroAt o 26 1 && zeroAt o 27 1 && zeroAt o 96 8 && zeroAt o 104 3) ||
        !zeroAt o 128 128 || walkReservedBad (ordDstWalk o)
  | .digest => walkReservedBad (ordSrcWalk o) || !zeroAt o 256 128 || !zeroAt o 416 96
  | .mark => !(zeroAt o 16 16 && zeroAt o 96 16 && zeroAt o 32 32 && zeroAt o 128 256 && zeroAt o 400 112)
  | .wait =>
      !(zeroAt o 16 16 && zeroAt o 96 16 && zeroAt o 32 32 && zeroAt o 128 256 && zeroAt o 392 24 && zeroAt o 480 32)
  | .note => !(zeroAt o 16 16 && zeroAt o 96 16 && zeroAt o 32 32 && zeroAt o 128 256 && zeroAt o 384 128)

/-- Whether a walk is LINEAR with DIRECTION AUTO and CONFINE 0 (R67, auto conditions 2 and 3). -/
def walkAuto (w : BitVec 128) : Bool := walkMode w == 0 && walkDir w == 2 && walkConfine w == 0

/-- The auto conditions of R67. -/
def autoConditions (k : OrderKind) (o : BitVec 512) : Bool :=
  k == .move && walkAuto (ordSrcWalk o) && walkAuto (ordDstWalk o) &&
    fmtSize (ordSrcFmt o) == fmtSize (ordDstFmt o)

/-- A format code that names no format (R59). -/
def fmtIllegal (f : BitVec 4) : Bool := decide (8 ≤ f.toNat)

/-- Check 3 of R64 (R66, R67). -/
def invalidField (k : OrderKind) (o : BitVec 512) : Bool :=
  (k.usesSource && (fmtIllegal (ordSrcFmt o) || decide (ordScale o < -63 ∨ 63 < ordScale o) ||
      walkFieldBad (autoConditions k o) (ordSrcWalk o))) ||
  (k.movesData && (fmtIllegal (ordDstFmt o) || decide (Config.maxCount < ordCount o))) ||
  (k.usesDest && walkFieldBad (autoConditions k o) (ordDstWalk o)) ||
  (k == .mark && ordAdd o == 0) ||
  (k == .wait && decide (8 ≤ (ordTarget o).toNat))

/-- The channel a WAIT names, for a legal TARGET (R62). -/
def waitTarget (o : BitVec 512) : ChanNo := Fin.ofNat 8 (ordTarget o).toNat

/-- Check 4 of R64 (R68). -/
def denied (c : ChanNo) (waitMask : BitVec 8) (k : OrderKind) (o : BitVec 512) : Bool :=
  k == .wait && waitTarget o != c && !waitMask.getLsbD (waitTarget o).val

/-- The outcome of validation: OK, or the status of the first check that fails (R64). -/
def validate (c : ChanNo) (waitMask : BitVec 8) (o : BitVec 512) : Status :=
  match orderKind o with
  | none => .invalidKind
  | some k =>
    if reservedNonzero k o then .reservedNonzero
    else if invalidField k o then .invalidField
    else if denied c waitMask k o then .denied
    else .ok

/-- The processing direction decided at validation (R92, R70): descending or not. -/
def decidedDown (o : BitVec 512) : Bool :=
  orderKind o == some .move && walkDir (ordSrcWalk o) == 2 && walkDir (ordDstWalk o) == 2 &&
    (let src := (walkBase (ordSrcWalk o)).toNat
     let dst := (walkBase (ordDstWalk o)).toNat
     decide (src < dst ∧ dst < src + ordCount o * fmtSize (ordSrcFmt o)))

/-! ## Addresses (R78 to R88) -/

/-- The element index that processing position p handles (R91, R93). -/
def elementIndex (o : BitVec 512) (down : Bool) (p : Nat) : Nat :=
  if down then ordCount o - 1 - p else p

/-- The step from one element to the next of a LINEAR or INDEXED walk: up, or down for DESC (R78, R81). -/
def walkSign (w : BitVec 128) : Int := if walkDir w == 1 then -1 else 1

/-- The offset of element i, for element size e (R78 to R81). -/
def walkOffset (w : BitVec 128) (e i : Nat) : Int :=
  match (walkMode w).toNat with
  | 0 => walkSign w * (i * e : Nat)
  | 1 => (i : Int) * walkParamA w
  | 2 => (i / walkRun w : Nat) * walkParamA w + (i % walkRun w * e : Nat)
  | _ => walkSign w * (i * walkPtrBytes w : Nat)

/-- The window exponent of a CONFINE code (R83). -/
def confineExp (confine : Nat) : Nat :=
  match confine with
  | 1 => 8
  | 2 => 12
  | 3 => 16
  | 4 => 20
  | _ => 24

/-- The placed address of element i, possibly out of range (R82, R83). -/
def placedAddress (w : BitVec 128) (e i : Nat) : Int :=
  let base := (walkBase w).toNat
  if walkConfine w == 0 then (base : Int) + walkOffset w e i
  else
    let win := 2 ^ confineExp (walkConfine w).toNat
    ((base - base % win : Nat) : Int) + (((base % win : Nat) : Int) + walkOffset w e i) % (win : Nat)

/-- The element address formed from a pointer's bytes (R85, R86). -/
def pointerAddress (w : BitVec 128) (ptr : BitVec 64) : Int :=
  match (walkPtrWidth w).toNat with
  | 0 => (((walkParamB w).extractLsb' 0 24).toNat * 2 ^ 16 : Nat) +
      (((ptr.extractLsb' 0 16).toNat : Int) + walkParamA w) % (2 ^ 16 : Nat)
  | 1 => (((walkParamB w).extractLsb' 0 8).toNat * 2 ^ 32 : Nat) +
      (((ptr.extractLsb' 0 32).toNat : Int) + walkParamA w) % (2 ^ 32 : Nat)
  | _ => ptr.toInt + walkParamA w

/-- Whether the bytes of an item of `size` bytes at address a all lie in the 40-bit space (R82, R86, R87). -/
def addressInRange (a : Int) (size : Nat) : Bool :=
  decide (0 ≤ a ∧ a + size ≤ (Config.evaEnd : Nat))

/-- The address a fault reports for an address failure: the start modulo 2^44 (R89). -/
def failureAddress (a : Int) : Pa := BitVec.ofInt 44 a

/-- The portions of an item of `size` bytes at address a: two where it crosses a 4 KiB boundary (R88). -/
def portionsOf (a size : Nat) : List Portion :=
  let low := 4096 - a % 4096
  if size ≤ low then [{ eva := BitVec.ofNat 40 a, off := 0, len := size }]
  else [{ eva := BitVec.ofNat 40 a, off := 0, len := low },
        { eva := BitVec.ofNat 40 (a + low), off := low, len := size - low }]

end Sys2Proof.Machine
end

