-- ==== Sys2Proof/Machine/Flags.lean ====
section
/-! DEFINITION. Element shaping, its flags, the fill ramp and the digest (chapter 6). Element bytes travel as a
64-bit value, the byte at the lowest address in bits 7..0. -/

namespace Sys2Proof.Machine

/-- The union of two flag sets (R102). -/
def ShapeFlags.join (a b : ShapeFlags) : ShapeFlags :=
  { inexact := a.inexact || b.inexact, saturated := a.saturated || b.saturated, wrapped := a.wrapped || b.wrapped }

/-- Whether a flag set holds a flag that STRICT selects (R103). -/
def ShapeFlags.meets (a b : ShapeFlags) : Bool :=
  (a.inexact && b.inexact) || (a.saturated && b.saturated) || (a.wrapped && b.wrapped)

/-- Byte j of an element's bytes. -/
def byteAt (x : BitVec 64) (j : Nat) : BitVec 8 := x.extractLsb' (8 * j) 8

/-- The first n bytes of an element's bytes, as numbers in address order. -/
def bytesOf (x : BitVec 64) (n : Nat) : List Nat :=
  ([0, 1, 2, 3, 4, 5, 6, 7].take n).map fun j => (byteAt x j).toNat

/-- The little-endian value of bytes given in address order (R2). -/
def leValue : List Nat → Nat
  | [] => 0
  | b :: rest => b + 256 * leValue rest

/-- Reversal of the first n bytes (SRC_SWAP and DST_SWAP, R97, R101). -/
def swapBytes (x : BitVec 64) (n : Nat) : BitVec 64 := BitVec.ofNat 64 (leValue (bytesOf x n).reverse)

/-- The integer the source bytes stand for (R97). -/
def sourceValue (fmt : BitVec 4) (swap : Bool) (raw : BitVec 64) : Int :=
  let n := fmtSize fmt
  let u := leValue (if swap then (bytesOf raw n).reverse else bytesOf raw n)
  if fmtSigned fmt && decide (2 ^ (8 * n - 1) ≤ u) then (u : Int) - (2 ^ (8 * n) : Nat) else u

/-- Division by 2^k with the rounding mode of ROUND (R99). -/
def roundDiv (round : BitVec 2) (x : Int) (k : Nat) : Int :=
  let d : Int := ((2 ^ k : Nat) : Int)
  let q := x / d
  let r := x % d
  match round.toNat with
  | 0 => if 2 * r < d ∨ (2 * r = d ∧ q % 2 = 0) then q else q + 1
  | 1 => if r = 0 ∨ 0 ≤ x then q else q + 1
  | 2 => q
  | _ => if r = 0 then q else q + 1

/-- The scaling step: the scaled value and whether INEXACT is raised (R98, R99). -/
def scaleValue (round : BitVec 2) (scale x : Int) : Int × Bool :=
  if 0 ≤ scale then (x * ((2 ^ scale.toNat : Nat) : Int), false)
  else
    let k := (-scale).toNat
    (roundDiv round x k, decide (x % ((2 ^ k : Nat) : Int) ≠ 0))

/-- The least integer of a format (R95). -/
def fmtMin (fmt : BitVec 4) : Int := if fmtSigned fmt then -((2 ^ (8 * fmtSize fmt - 1) : Nat) : Int) else 0

/-- The greatest integer of a format (R95). -/
def fmtMax (fmt : BitVec 4) : Int :=
  if fmtSigned fmt then ((2 ^ (8 * fmtSize fmt - 1) : Nat) : Int) - 1 else ((2 ^ (8 * fmtSize fmt) : Nat) : Int) - 1

/-- The integer of a format that equals y modulo 2^(8·size) (R100, wrap). -/
def wrapValue (fmt : BitVec 4) (y : Int) : Int :=
  let m : Int := ((2 ^ (8 * fmtSize fmt) : Nat) : Int)
  if y % m ≤ fmtMax fmt then y % m else y % m - m

/-- The range step: the fitted value and the flags it raises (R100). -/
def rangeValue (fmt : BitVec 4) (saturate : Bool) (y : Int) : Int × ShapeFlags :=
  if fmtMin fmt ≤ y ∧ y ≤ fmtMax fmt then (y, {})
  else if saturate then (if y < fmtMin fmt then fmtMin fmt else fmtMax fmt, { saturated := true })
  else (wrapValue fmt y, { wrapped := true })

/-- The encoding step and the destination swap (R101). -/
def encodeValue (fmt : BitVec 4) (swap : Bool) (z : Int) : BitVec 64 :=
  let w := BitVec.ofNat 64 (z % ((2 ^ (8 * fmtSize fmt) : Nat) : Int)).toNat
  if swap then swapBytes w (fmtSize fmt) else w

/-- The shaper: the shaped bytes and the flag set of one element (R96). -/
def shapeElement (o : BitVec 512) (raw : BitVec 64) : Shaped :=
  let x := sourceValue (ordSrcFmt o) (ordSrcSwap o) raw
  let (y, inexact) := scaleValue (ordRound o) (ordScale o) x
  let (z, flags) := rangeValue (ordDstFmt o) (ordSaturate o) y
  { bytes := encodeValue (ordDstFmt o) (ordDstSwap o) z, flags := { flags with inexact := inexact } }

/-- The bytes a FILL writes for element i (R105). -/
def rampBytes (o : BitVec 512) (i : Nat) : BitVec 64 :=
  let n := fmtSize (ordDstFmt o)
  let v := BitVec.ofNat 64 (((ordPattern o).toNat + i * (ordStep o).toNat) % 2 ^ (8 * n))
  if ordDstSwap o then swapBytes v n else v

/-- One byte folded into the digest state (R107). -/
def foldByte (ab : Nat × Nat) (b : Nat) : Nat × Nat :=
  let a := (ab.1 + b) % Config.digestModulus
  (a, (ab.2 + a) % Config.digestModulus)

/-- The shaped bytes of one position folded into the digest state, first byte first (R107). -/
def foldBytes (ab : Nat × Nat) (bs : List Nat) : Nat × Nat := bs.foldl foldByte ab

/-- The digest state a SEED gives (R106). -/
def seedDigest (seed : BitVec 32) : Nat × Nat :=
  (seed.toNat % 65536 % Config.digestModulus, seed.toNat / 65536 % Config.digestModulus)

/-- The digest value of a state (R108). -/
def digestValue (a b : Nat) : BitVec 32 := BitVec.ofNat 32 (b * 65536 + a)

end Sys2Proof.Machine
end

