-- ==== Sys2Proof/Machine/Ops.lean ====
section
/-! DEFINITION. The operations the commands share: reading and updating channels, lanes and spaces, the follow-on
agenda (R1), events (chapter 11), the refusal log (R13, R14), the ways an order ends (R24, R25, R49). -/

namespace Sys2Proof.Machine

/-- Every channel, ascending. -/
def allChannels : List ChanNo := [0, 1, 2, 3, 4, 5, 6, 7]

/-- Every lane, ascending. -/
def allLanes : List LaneNo := [0, 1, 2, 3]

/-! ## Access to the parts of the state -/

/-- Channel c. -/
def State.chan (s : State) (c : ChanNo) : Channel := s.channels[c.val]'c.isLt

/-- Lane l. -/
def State.lane (s : State) (l : LaneNo) : Lane := s.lanes[l.val]'l.isLt

/-- Space descriptor x. -/
def State.space (s : State) (x : SpaceNo) : Space := s.spaces[x.val]'x.isLt

/-- Channel c replaced. -/
def State.setChan (s : State) (c : ChanNo) (x : Channel) : State :=
  { s with channels := s.channels.set c.val x c.isLt }

/-- Lane l replaced. -/
def State.setLane (s : State) (l : LaneNo) (x : Lane) : State :=
  { s with lanes := s.lanes.set l.val x l.isLt }

/-- Space descriptor x replaced. -/
def State.setSpace (s : State) (x : SpaceNo) (v : Space) : State :=
  { s with spaces := s.spaces.set x.val v x.isLt }

/-- Channel c updated. -/
def State.modChan (s : State) (c : ChanNo) (f : Channel → Channel) : State := s.setChan c (f (s.chan c))

/-- Lane l updated. -/
def State.modLane (s : State) (l : LaneNo) (f : Lane → Lane) : State := s.setLane l (f (s.lane l))

/-- Every channel updated. -/
def State.modChannels (s : State) (f : Channel → Channel) : State := allChannels.foldl (fun s c => s.modChan c f) s

/-- Every lane updated. -/
def State.modLanes (s : State) (f : Lane → Lane) : State := allLanes.foldl (fun s l => s.modLane l f) s

/-- Follow-on steps called for by the step being taken, put before those still owed (R1). -/
def State.callFor (s : State) (fs : List FollowOn) : State := { s with agenda := fs ++ s.agenda }

/-- Whether the engine takes register accesses and events as usual: RESET_N high and no soft reset (R16, R177, R179). -/
def State.operating (s : State) : Bool := s.resetN && s.power != .resetting

/-! ## Lanes and channels -/

/-- A lane in LOADING, READING, WRITING or DRAINING is busy (R110). -/
def LaneState.busy : LaneState → Bool
  | .free | .disabled => false
  | _ => true

/-- The lane a channel holds (R19). -/
def State.heldLane (s : State) (c : ChanNo) : Option LaneNo :=
  allLanes.find? fun l => (s.lane l).state.busy && (s.lane l).owner == some c

/-- The states in which a channel holds a completion-slot reservation (R18). -/
def ChState.reserves : ChState → Bool
  | .fetching | .queued | .running | .syncWait | .completing | .faulted | .wedged | .clearing => true
  | _ => false

/-- An order is pending (section 2.2). -/
def Channel.orderPending (ch : Channel) : Bool := ch.sqHead != ch.sqTail

/-- The submission ring size Ns (section 3.1). -/
def ChannelConfig.sqSlots (g : ChannelConfig) : Nat := 2 ^ g.sqSize.toNat

/-- The completion ring size Nc (section 3.1). -/
def ChannelConfig.cqSlots (g : ChannelConfig) : Nat := 2 ^ g.cqSize.toNat

/-- Orders pending in the submission ring (R41). -/
def Channel.pendingOrders (ch : Channel) : Nat := (ch.sqTail - ch.sqHead).toNat

/-- Completion slots occupied (R41). -/
def Channel.occupiedSlots (ch : Channel) : Nat := (ch.cqTail - ch.cqHead).toNat

/-- At least one completion slot is free (R47). -/
def Channel.slotFree (ch : Channel) : Bool := decide (ch.occupiedSlots < ch.cfg.cqSlots)

/-- The channel waits for a ring read or a record write it has issued. -/
def Channel.awaiting (ch : Channel) : Bool := ch.ring.any (·.live)

/-- Outstanding ring transactions left behind: carried to their end and discarded (R21, R36). -/
def Channel.leaveRing (ch : Channel) : Channel :=
  { ch with ring := ch.ring.map fun t => { t with live := false } }

/-- A channel data-faulted or ring-faulted (R18). -/
def Channel.ringFaulted (ch : Channel) : Bool := ch.state == .faulted && ch.fault.access == .ring

/-- A FAULTED channel whose record has an access kind other than RING (R18). -/
def Channel.dataFaulted (ch : Channel) : Bool := ch.state == .faulted && ch.fault.access != .ring

/-! ## Events (R170 to R175) -/

/-- Sets channel causes; none is raised in reset (R176). -/
def State.raise (s : State) (c : ChanNo) (causes : BitVec 7) : State :=
  if s.operating then s.modChan c fun ch => { ch with evtPending := ch.evtPending ||| causes } else s

/-- Sets global causes; none is raised in reset (R176). -/
def State.raiseGlobal (s : State) (causes : BitVec 4) : State :=
  if s.operating then { s with glbPending := s.glbPending ||| causes } else s

/-- DONE. -/
def evtDone : BitVec 7 := 0x01#7
/-- ERROR. -/
def evtError : BitVec 7 := 0x02#7
/-- FAULT. -/
def evtFault : BitVec 7 := 0x04#7
/-- STOPPED. -/
def evtStopped : BitVec 7 := 0x08#7
/-- WEDGED. -/
def evtWedged : BitVec 7 := 0x10#7
/-- DOORBELL_REFUSED. -/
def evtDoorbellRefused : BitVec 7 := 0x20#7
/-- CQ_HEAD_REFUSED. -/
def evtCqHeadRefused : BitVec 7 := 0x40#7
/-- INVAL_DONE. -/
def glbInvalDone : BitVec 4 := 0x1#4
/-- ACCESS_REFUSED. -/
def glbAccessRefused : BitVec 4 := 0x2#4
/-- DOZE_ENTERED. -/
def glbDozeEntered : BitVec 4 := 0x4#4
/-- WAKE. -/
def glbWake : BitVec 4 := 0x8#4

/-- THRESHOLD, a stored 0 being treated as 1 (R173). -/
def ChannelConfig.effectiveThreshold (g : ChannelConfig) : Nat := if g.threshold = 0 then 1 else g.threshold.toNat

/-- DONE raised, the counter set to 0, the timer stopped (R173, R174, R175). -/
def State.reportDone (s : State) (c : ChanNo) : State :=
  (s.raise c evtDone).modChan c fun ch => { ch with coalesceCount := 0, coalesceTimer := none }

/-- The coalescing state after a counted success that stays below the threshold (R173, R174). -/
def Channel.countedBelow (ch : Channel) : Channel :=
  { ch with
    coalesceCount := ch.coalesceCount + 1
    coalesceTimer :=
      if ch.coalesceCount = 0 ∧ ch.cfg.timer ≠ 0 then some { length := ch.cfg.timer } else ch.coalesceTimer }

/-- One counted success (R173). -/
def State.countSuccess (s : State) (c : ChanNo) : State :=
  if (s.chan c).cfg.effectiveThreshold ≤ (s.chan c).coalesceCount.toNat + 1 then s.reportDone c
  else s.modChan c Channel.countedBelow

/-- What one step of a channel tells the Event Unit: a counted success, and the causes ERROR, FAULT, STOPPED and
WEDGED it raises (R170). -/
structure Notice where
  counted : Bool := false
  causes : BitVec 7 := 0
deriving DecidableEq, Repr

/-- The Event Unit's effects of one step, in the order of R175: the count, the causes, the flush. -/
def State.tell (s : State) (c : ChanNo) (n : Notice) : State :=
  let s := if n.counted then s.countSuccess c else s
  let s := s.raise c n.causes
  if n.causes ≠ 0 ∧ (s.chan c).coalesceCount ≠ 0 then s.reportDone c else s

/-! ## The refusal log (R13, R14) -/

/-- The log after a refusal (R14). -/
def RefusalLog.record (g : RefusalLog) (reason : BitVec 3) (off : BitVec 16) : RefusalLog :=
  if g.valid then { g with count := satInc g.count }
  else { valid := true, reason := reason, offset := off, count := satInc g.count }

/-- SIZE. -/
def refuseSize : BitVec 3 := 1
/-- CHANNEL_ENABLED. -/
def refuseChannelEnabled : BitVec 3 := 2
/-- SPACE_IN_USE. -/
def refuseSpaceInUse : BitVec 3 := 3
/-- INVAL_BUSY. -/
def refuseInvalBusy : BitVec 3 := 4

/-- The outcome of a refused access, but for its response (R13). -/
def State.refuse (s : State) (reason : BitVec 3) (off : BitVec 16) : State :=
  State.raiseGlobal { s with refusalLog := s.refusalLog.record reason off } glbAccessRefused

/-! ## How a channel changes state -/

/-- Entry to STOPPED without a record: reservation, order copy and both pending flags given up (R19, R31, R34, R35). -/
def Channel.stop (ch : Channel) : Channel :=
  { ch.leaveRing with state := .stopped, pausePending := false, abortPending := false, order := none, wait := none }

/-- Entry to STOPPED with its cause (R26, R170). -/
def State.stopChannel (s : State) (c : ChanNo) : State :=
  (s.modChan c Channel.stop).tell c { causes := evtStopped }

/-- Entry to FETCHING with the progress at its starting values (R18, R158). -/
def Channel.toFetching (ch : Channel) : Channel :=
  { ch with state := .fetching, order := none, progress := {}, afterFault := false }

/-- Entry to FETCHING; in RUN the order read is issued with it (R20, R27, R48). -/
def State.enterFetching (s : State) (c : ChanNo) : State :=
  let s := s.modChan c Channel.toFetching
  if s.power = .run then s.callFor [.issue c] else s

/-- Whether an OK outcome is counted for DONE (R173). -/
def Channel.counts (ch : Channel) : Bool := (ch.order.map ordEvent).getD false || ch.cfg.eventAll

/-- The state R24 chooses when an order's outcome is final. -/
def Channel.nextState (ch : Channel) : ChState :=
  if ch.abortPending || ch.pausePending then .stopped
  else if ch.status != .ok && ch.cfg.stopOnError then .stopped
  else .idle

/-- The channel after its order's outcome is final: SQ_HEAD passes the order (R24, R45). -/
def Channel.finish (ch : Channel) : Channel :=
  { ch with
    state := ch.nextState
    pausePending := if ch.nextState = .stopped then false else ch.pausePending
    abortPending := if ch.nextState = .stopped then false else ch.abortPending
    sqHead := ch.sqHead + 1
    order := none }

/-- What the finishing step tells the Event Unit (R170, R175). -/
def Channel.finishNotice (ch : Channel) : Notice :=
  { counted := ch.status == .ok && ch.counts
    causes := (if ch.status == .ok then 0 else evtError) ||| (if ch.nextState = .stopped then evtStopped else 0) }

/-- An order's outcome becomes final (R24, R45, R49, R50). -/
def State.finishOrder (s : State) (c : ChanNo) : State :=
  (s.modChan c Channel.finish).tell c (s.chan c).finishNotice

/-- An OK order with QUIET set ends without a record (R49). -/
def Channel.quietSuccess (ch : Channel) : Bool := ch.status == .ok && (ch.order.map ordQuiet).getD false

/-- The channel as it enters COMPLETING with a status and a RESULT (R24, R146). -/
def Channel.toCompleting (ch : Channel) (status : Status) (result : BitVec 32) : Channel :=
  { ch with state := .completing, status := status, result := result, wait := none, passOver := 0 }

/-- Entry to COMPLETING: a quiet success ends in the same step, any other order issues its record unless the engine
dozes (R24, R27, R49, R50). -/
def State.enterCompleting (s : State) (c : ChanNo) (status : Status) (result : BitVec 32) : State :=
  let s := s.modChan c fun ch => ch.toCompleting status result
  if (s.chan c).quietSuccess then s.finishOrder c
  else if s.power = .doze then s else s.callFor [.issue c]

/-- Entry to FAULTED (R25, R148, R149). -/
def State.enterFaulted (s : State) (c : ChanNo) (f : FaultInfo) : State :=
  (s.modChan c fun ch =>
    { ch with
      state := .faulted
      abortPending := false
      fault := { cause := f.cause, prior := .none, access := f.access, level := f.level,
                 count := satInc ch.fault.count, index := ch.sqHead,
                 element := BitVec.ofNat 24 f.element, addr := f.addr, entry := f.entry } }).tell c
    { causes := evtFault }

/-- Entry to WEDGED (R25, R158). -/
def State.enterWedged (s : State) (c : ChanNo) (cause : Cause) (addr : Pa) : State :=
  (s.modChan c fun ch =>
    { ch with
      state := .wedged
      pausePending := false
      abortPending := false
      fault := { cause := cause, prior := if ch.afterFault then ch.fault.cause else .none,
                 access := .completion, level := 0, count := satInc ch.fault.count, index := ch.sqHead,
                 element := 0, addr := addr, entry := 0 } }).tell c
    { causes := evtWedged }

/-- The mark counter of channel c changes, and the waits on it are evaluated next (R159, R164). -/
def State.setMark (s : State) (c : ChanNo) (v : BitVec 32) : State :=
  (s.modChan c fun ch => { ch with mark := v }).callFor [.waits c]

/-- A transition of the channel is held while no fetch starts and no transaction is issued: a departure from IDLE or
WAITING_SLOT, an order read, a record write (R27). -/
def Channel.held (ch : Channel) : Bool :=
  match ch.state with
  | .idle => ch.orderPending
  | .waitingSlot => ch.slotFree
  | .fetching | .completing => !ch.awaiting
  | _ => false

/-- The follow-on steps of a wake or a cancellation: the transitions held in that step, ascending, then the grant
decisions (R183). -/
def State.releasedSteps (s : State) : List FollowOn :=
  (allChannels.filter fun c => (s.chan c).held).map FollowOn.held ++ [.grants]

/-- The wake of R183, in the step of its source: the held transitions and the grants follow. -/
def State.wakeUp (s : State) : State :=
  (State.raiseGlobal { s with power := .run, dozeReq := false } glbWake).callFor s.releasedSteps

end Sys2Proof.Machine
end

