-- ==== Sys2Proof/Machine/Translate.lean ====
section
/-! DEFINITION. The Translation Unit (chapter 8): the cache, page-table entries, permission, the walk queue and
invalidation. What it answers to lanes is taken up by Machine/Lanes.lean and Machine/Walks.lean. -/

namespace Sys2Proof.Machine

/-! ## The cache (R136 to R138) -/

/-- The page number of an EVA: bits 39..12. -/
def evaPage (a : Eva) : BitVec 28 := a.extractLsb' 12 28

/-- The 2 MiB region number of a page number. -/
def pageRegion (p : BitVec 28) : BitVec 19 := p.extractLsb' 9 19

/-- Whether an entry covers an EVA of a space (R136). -/
def CacheEntry.covers (e : CacheEntry) (sid : SpaceNo) (a : Eva) : Bool :=
  e.sid == sid && (if e.block then pageRegion e.page == pageRegion (evaPage a) else e.page == evaPage a)

/-- Whether two entries of one space overlap (R138). -/
def CacheEntry.overlaps (e f : CacheEntry) : Bool :=
  e.sid == f.sid && (if e.block || f.block then pageRegion e.page == pageRegion f.page else e.page == f.page)

/-- The translation of an EVA within a page or a block frame (R130). -/
def translateIn (frame : Pa) (block : Bool) (a : Eva) : Pa :=
  frame + (if block then (a.extractLsb' 0 21).setWidth 44 else (a.extractLsb' 0 12).setWidth 44)

/-- Whether a request hits an entry (R137). -/
def CacheEntry.hits (e : CacheEntry) (sid : SpaceNo) (r : WalkRequest) : Bool :=
  e.covers sid r.eva && (if r.write then e.write && e.modKnown else e.read) && (r.trust || !e.ownerOnly)

/-- A cache lookup: on a hit the translation and the cache with its entry most recent (R137). -/
def lookupCache (cache : List CacheEntry) (sid : SpaceNo) (r : WalkRequest) : Option (Pa × List CacheEntry) :=
  match cache.find? (·.hits sid r) with
  | some e => some (translateIn e.frame e.block r.eva, e :: cache.erase e)
  | none => none

/-- Insertion: overlapping entries go, the least recent entry goes when no slot is empty (R138). -/
def insertCache (cache : List CacheEntry) (e : CacheEntry) : List CacheEntry :=
  e :: (cache.filter fun f => !f.overlaps e).take (Config.cacheSlots - 1)

/-! ## Table entries (R128 to R131) -/

/-- The index of an EVA in the table of a level (section 8.2). -/
def levelIndex (a : Eva) (level : Nat) : BitVec 44 :=
  match level with
  | 1 => (a.extractLsb' 30 10).setWidth 44
  | 2 => (a.extractLsb' 21 9).setWidth 44
  | _ => (a.extractLsb' 12 9).setWidth 44

/-- The PA of the entry of a level in the table at `base`, modulo 2^44 (R128). -/
def entryAddress (base : Pa) (a : Eva) (level : Nat) : Pa := base + levelIndex a level * 8

/-- The first address of a page, from its number. -/
def pageEva (p : BitVec 28) : Eva := p ++ 0#12

/-- The frame address of an entry (R128). -/
def entryFrame (e : BitVec 64) : Pa := e.extractLsb' 12 32 ++ 0#12

/-- The root table of a space (R128). -/
def Space.rootPa (x : Space) : Pa := x.root ++ 0#12

/-- VALID. -/
def entValid (e : BitVec 64) : Bool := e.getLsbD 0
/-- LEAF. -/
def entLeaf (e : BitVec 64) : Bool := e.getLsbD 1
/-- READ. -/
def entRead (e : BitVec 64) : Bool := e.getLsbD 2
/-- WRITE. -/
def entWrite (e : BitVec 64) : Bool := e.getLsbD 3
/-- OWNER_ONLY. -/
def entOwnerOnly (e : BitVec 64) : Bool := e.getLsbD 4
/-- TOUCHED. -/
def entTouched (e : BitVec 64) : Bool := e.getLsbD 5
/-- MODIFIED. -/
def entModified (e : BitVec 64) : Bool := e.getLsbD 6

/-- The malformed conditions at a level (R129 check 2). -/
def entMalformed (e : BitVec 64) (level : Nat) : Bool :=
  e.extractLsb' 7 5 != 0 || e.extractLsb' 44 20 != 0 ||
  (level == 1 && entLeaf e) || (level == 3 && !entLeaf e) ||
  (level == 2 && entLeaf e && e.extractLsb' 12 9 != 0) ||
  (!entLeaf e && e.extractLsb' 2 5 != 0)

/-- What the walker finds in an entry (R129). -/
inductive Examined where
  /-- A failure at this level. -/
  | fails (cause : Cause)
  /-- A well-formed non-leaf entry: the next table. -/
  | table (base : Pa)
  /-- A well-formed leaf. -/
  | leaf
deriving DecidableEq, Repr

/-- The examination of an entry of a level (R129). -/
def examine (e : BitVec 64) (level : Nat) : Examined :=
  if !entValid e then .fails .notMapped
  else if entMalformed e level then .fails .entryMalformed
  else if entLeaf e then .leaf
  else .table (entryFrame e)

/-- The permission check of one request against a leaf: its fault, if any (R131). -/
def permissionFault (e : BitVec 64) (r : WalkRequest) : Option Cause :=
  if !r.trust && entOwnerOnly e then some .ownerOnly
  else if !r.write && !entRead e then some .readDenied
  else if r.write && !entWrite e then some .writeDenied
  else none

/-- Whether a request that passed its checks needs an update (R132). -/
def needsUpdate (e : BitVec 64) (r : WalkRequest) : Bool :=
  !entTouched e || (r.write && !entModified e)

/-- The new value of a flag update for the requests of a walk (R132). -/
def updatedLeaf (e : BitVec 64) (rs : List WalkRequest) : BitVec 64 :=
  let e := e ||| 0x20#64
  if rs.any fun r => r.write && (permissionFault e r).isNone then e ||| 0x40#64 else e

/-! ## Answers of the Translation Unit (R126) -/

/-- The answer to a request. -/
inductive Answer where
  /-- A translation. -/
  | translation (pa : Pa)
  /-- A walk fault: cause, level, PA of the entry. -/
  | fault (cause : Cause) (level : Nat) (entry : Pa)
deriving DecidableEq, Repr

/-- Requests of a walk with their answers. -/
abbrev Answers := List (WalkRequest × Answer)

/-- The same fault for every request (R134). -/
def answerAll (rs : List WalkRequest) (cause : Cause) (level : Nat) (entry : Pa) : Answers :=
  rs.map fun r => (r, .fault cause level entry)

/-- The answers at a leaf: a permission fault keeps its own, every other request takes `passed` (R131 to R133). -/
def answerLeaf (rs : List WalkRequest) (e : BitVec 64) (level : Nat) (entry : Pa)
    (passed : WalkRequest → Answer) : Answers :=
  rs.map fun r =>
    match permissionFault e r with
    | some cause => (r, .fault cause level entry)
    | none => (r, passed r)

/-- The translation a leaf of a level gives a request (R130). -/
def leafTranslation (e : BitVec 64) (level : Nat) (r : WalkRequest) : Answer :=
  .translation (translateIn (entryFrame e) (level == 2) r.eva)

/-- The cache entry of a leaf (R136, R138). -/
def leafEntry (w : Walk) (e : BitVec 64) (level : Nat) : CacheEntry :=
  { sid := w.sid, page := w.page, block := level == 2, frame := entryFrame e, read := entRead e,
    write := entWrite e, ownerOnly := entOwnerOnly e, modKnown := entModified e }

/-! ## Requests and the walk queue (R127, R137, R139) -/

/-- Whether a request may attach to the walk in progress: its leaf is not examined yet (R139 item 1). -/
def Walker.open (w : Walker) : Bool :=
  match w.phase with
  | .reading _ _ => true
  | .exchanging _ _ _ _ => false

/-- A request attached to a walk. -/
def Walk.attach (w : Walk) (r : WalkRequest) : Walk := { w with requests := w.requests ++ [r] }

/-- Whether a walk is for a space and a page (R139). -/
def Walk.isFor (w : Walk) (sid : SpaceNo) (page : BitVec 28) : Bool := w.sid == sid && w.page == page

/-- A request attached to the first waiting walk for its page. -/
def attachQueue (q : List Walk) (sid : SpaceNo) (r : WalkRequest) : List Walk :=
  match q with
  | [] => []
  | w :: rest => if w.isFor sid (evaPage r.eva) then w.attach r :: rest else w :: attachQueue rest sid r

/-- A cache miss goes to the walk queue (R139). DESIGN CHOICE: where a waiting walk and the walk in progress, reopened
by a restart, both qualify, it attaches to the waiting one (notes/assumptions/32.md). -/
def State.enqueueRequest (s : State) (sid : SpaceNo) (r : WalkRequest) : State :=
  let page := evaPage r.eva
  if s.walkQueue.any (·.isFor sid page) then { s with walkQueue := attachQueue s.walkQueue sid r }
  else
    match s.walker with
    | some w =>
      if w.walk.isFor sid page && w.open then { s with walker := some { w with walk := w.walk.attach r } }
      else { s with walkQueue := s.walkQueue ++ [{ sid := sid, page := page, requests := [r] }] }
    | none =>
      State.callFor { s with walkQueue := s.walkQueue ++ [{ sid := sid, page := page, requests := [r] }] } [.walk]

/-- A translation request arrives: the translation if it is answered in this step, and the unit after it (R127, R137,
R139). -/
def State.requestTranslation (s : State) (sid : SpaceNo) (r : WalkRequest) : State × Option Pa :=
  if (s.space sid).mode = 1 then (s, some (r.eva.setWidth 44))
  else
    match lookupCache s.cache sid r with
    | some (pa, cache) => ({ s with cache := cache }, some pa)
    | none => (s.enqueueRequest sid r, none)

/-- A lane's request taken out of the waiting walks; walks left without one go (R140). -/
def dropRequest (q : List Walk) (l : LaneNo) : List Walk :=
  (q.map fun w => { w with requests := w.requests.filter fun r => r.lane != l }).filter fun w => !w.requests.isEmpty

/-- The requests of a lane marked abandoned in the walk in progress (R140). -/
def Walk.abandon (w : Walk) (l : LaneNo) : Walk :=
  { w with requests := w.requests.map fun r => if r.lane = l then { r with abandoned := true } else r }

/-- The walk in progress after a lane has abandoned its request (R140). -/
def Walker.abandon (l : LaneNo) (w : Walker) : Walker := { w with walk := w.walk.abandon l }

/-- A lane abandons its outstanding request (R140). -/
def State.abandonRequest (s : State) (l : LaneNo) : State :=
  { s with
    walkQueue := dropRequest s.walkQueue l
    walker := s.walker.map (Walker.abandon l) }

/-- The walker at the start of an attempt: the read of the level-1 entry is issued (R128, R135). -/
def State.attempt (s : State) (w : Walk) : Walker :=
  { walk := w, phase := .reading 1 (entryAddress (s.space w.sid).rootPa (pageEva w.page) 1), timeout := s.busTimeout }

/-- The walker starts an attempt (R135). -/
def State.startAttempt (s : State) (w : Walk) : State := { s with walker := some (s.attempt w) }

/-! ## Invalidation (R141 to R143) -/

/-- Whether an invalidation's scope removes a cache entry (R141). -/
def Inval.removes (v : Inval) (e : CacheEntry) : Bool :=
  match v.scope.toNat with
  | 1 => e.sid == v.sid
  | 2 => e.covers v.sid v.addr
  | _ => true

/-- Whether an invalidation's scope marks a walk stale (R142). -/
def Inval.marks (v : Inval) (w : Walk) : Bool :=
  match v.scope.toNat with
  | 1 => w.sid == v.sid
  | 2 => w.sid == v.sid && pageRegion w.page == pageRegion (evaPage v.addr)
  | _ => true

/-- The cursor with its held translations counted as old (R143). -/
def Cursor.markOld : Cursor → Cursor
  | .translate k done todo => .translate k (done.map fun h => { h with old := true }) todo
  | .issue k ready => .issue k (ready.map fun h => { h with old := true })
  | c => c

/-- A lane with its translations and transactions counted as old (R143). -/
def Lane.markOld (x : Lane) : Lane :=
  { x with cursor := x.cursor.markOld, txns := x.txns.map fun t => { t with old := true } }

/-- The cursor holds an old translation. -/
def Cursor.holdsOld : Cursor → Bool
  | .translate _ done _ => done.any (·.old)
  | .issue _ ready => ready.any (·.old)
  | _ => false

/-- A lane holds an old translation or waits for a transaction issued with one (R143). -/
def Lane.holdsOld (x : Lane) : Bool := x.cursor.holdsOld || x.txns.any (·.old)

/-- Some old translation is not used up (R143). -/
def State.oldOutstanding (s : State) : Bool := allLanes.any fun l => (s.lane l).holdsOld

/-- An accepted GO write, with SCOPE and SID stored (R141, R142). -/
def State.startInvalidation (s : State) : State :=
  State.modLanes
    { s with
      inval := { s.inval with busy := true }
      cache := s.cache.filter fun e => !s.inval.removes e
      walker := s.walker.map fun w =>
        if s.inval.marks w.walk then { w with walk := { w.walk with stale := true } } else w }
    Lane.markOld

/-- The end of an invalidation (R143). -/
def State.endInvalidation (s : State) : State :=
  State.raiseGlobal { s with inval := { s.inval with busy := false, requestsDone := s.inval.requestsDone + 1 } }
    glbInvalDone

end Sys2Proof.Machine
end

