-- ==== Sys2Proof/Machine/Lanes.lean ====
section
/-! DEFINITION. The transfer lanes (chapter 7): the steps a lane takes for its positions, what its transactions'
answers do to it, settling, progress, beats, and how an order leaves a lane. -/

namespace Sys2Proof.Machine

/-! ## The position a lane takes (R90, R116, R117) -/

/-- The processing position whose steps are taken. -/
def Lane.pos (x : Lane) : Nat := x.beatStart + x.place

/-- The element index of that position (R91, R93). -/
def Lane.element (x : Lane) (p : Nat) : Nat := elementIndex x.order x.progress.down p

/-- The walk the phase serves: source in READING, destination in WRITING (R118, R119). -/
def Lane.walk (x : Lane) : BitVec 128 := if x.state = .reading then ordSrcWalk x.order else ordDstWalk x.order

/-- The element size of that walk (R76). -/
def Lane.elementSize (x : Lane) : Nat :=
  if x.state = .reading then fmtSize (ordSrcFmt x.order) else fmtSize (ordDstFmt x.order)

/-- The access kind of the phase's pointer reads (R84). -/
def Lane.pointerKind (x : Lane) : AccessKind := if x.state = .reading then .srcPointer else .dstPointer

/-- The access kind of the phase's data accesses. -/
def Lane.dataKind (x : Lane) : AccessKind := if x.state = .reading then .srcData else .dstData

/-- Pointer reads (R84). -/
def AccessKind.isPointer : AccessKind → Bool
  | .srcPointer | .dstPointer => true
  | _ => false

/-- Destination data is written, everything else a lane accesses is read (R126). -/
def AccessKind.isWrite (k : AccessKind) : Bool := k == .dstData

/-- Whether the lane may take a step: it carries out a beat, a position is left, and no failure stands at or below it
(R117, R122). -/
def Lane.mayStep (x : Lane) : Bool :=
  (x.state == .reading || x.state == .writing) && decide (x.place < x.slots.length) &&
    match x.failure with
    | none => true
    | some f => decide (x.pos < f.pos)

/-- Whether failure f comes before failure g: a lower position, or the lower portion of one (R151). -/
def Failure.before (f g : Failure) : Bool :=
  decide (f.pos < g.pos) || (f.pos == g.pos && decide (f.portion < g.portion))

/-- The lane meets a failure: the earliest one met is the one it settles, and what it held is discarded (R122). -/
def Lane.fail (x : Lane) (f : Failure) : Lane :=
  match x.failure with
  | some g => if f.before g then { x with failure := some f, cursor := .begin } else x
  | none => { x with failure := some f, cursor := .begin }

/-- Whether a position stands at or above the failure being settled, so that its answers are discarded (R122). -/
def Lane.discards (x : Lane) (p : Nat) : Bool :=
  match x.failure with
  | some f => decide (f.pos ≤ p)
  | none => false

/-- The slot of a position updated. -/
def Lane.modSlot (x : Lane) (p : Nat) (f : BeatSlot → BeatSlot) : Lane :=
  { x with slots := x.slots.modify (p - x.beatStart) f }

/-- The number of portions an access of the position waits for, noted where their answers are counted. -/
def Lane.expect (x : Lane) (k : AccessKind) (n : Nat) : Lane :=
  match k with
  | .srcData => x.modSlot x.pos fun b => { b with readsLeft := some n }
  | .dstData => x.modSlot x.pos fun b => { b with writesLeft := some n }
  | _ => { x with ptrLeft := n, ptrRaw := 0 }

/-- An access of `size` bytes at address a: an address failure (R89), or its portions to translate (R87, R88). -/
def Lane.formAccess (x : Lane) (k : AccessKind) (a : Int) (size : Nat) : Lane :=
  if addressInRange a size then
    let ps := portionsOf a.toNat size
    { x.expect k ps.length with cursor := .translate k [] ps }
  else
    x.fail
      { pos := x.pos
        fault := some { cause := .addressRange, access := k, level := 0, element := x.element x.pos,
                        addr := failureAddress a, entry := 0 } }

/-- The first step of a position: its table entry for an INDEXED walk, else its element (R90 steps 1 and 2). -/
def Lane.beginPosition (x : Lane) : Lane :=
  let i := x.element x.pos
  if walkIndexed x.walk then
    x.formAccess x.pointerKind (placedAddress x.walk x.elementSize i) (walkPtrBytes x.walk)
  else x.formAccess x.dataKind (placedAddress x.walk x.elementSize i) x.elementSize

/-- The element step of an INDEXED walk once its pointer is read (R85, R86, R90 step 2). -/
def Lane.followPointer (x : Lane) : Lane :=
  x.formAccess x.dataKind (pointerAddress x.walk x.ptrRaw) x.elementSize

/-- Physical byte ranges overlap (R117 item 5). -/
def rangesOverlap (a : Pa) (m : Nat) (b : Pa) (n : Nat) : Bool :=
  decide (a.toNat < b.toNat + n ∧ b.toNat < a.toNat + m)

/-- Whether a portion's transaction may be issued now: fewer than 8 outstanding, no forbidden overlap (R117 items 3
and 5). -/
def Lane.mayIssue (x : Lane) (k : AccessKind) (h : HeldPortion) : Bool :=
  decide (x.txns.length < Config.laneTransactions) &&
    !x.txns.any fun t =>
      (k.isWrite || t.kind.isWrite) && rangesOverlap h.pa h.portion.len t.pa t.portion.len

/-- Bytes `off` to `off + len - 1` of an element, moved down to bit 0. -/
def portionBytes (bytes : BitVec 64) (p : Portion) : BitVec 64 :=
  BitVec.ofNat 64 (bytes.toNat / 2 ^ (8 * p.off) % 2 ^ (8 * p.len))

/-- The bytes of a portion put back at their place in the element. -/
def placeBytes (data : BitVec 64) (p : Portion) : BitVec 64 :=
  BitVec.ofNat 64 (data.toNat % 2 ^ (8 * p.len) * 2 ^ (8 * p.off))

/-- The shaped bytes the buffer holds for a position. -/
def Lane.shapedBytes (x : Lane) (p : Nat) : BitVec 64 :=
  match x.slots[p - x.beatStart]? with
  | some b => (b.shaped.map (·.bytes)).getD 0
  | none => 0

/-- The transaction of a portion, with the timeout of its issue (R117 item 3, R123). -/
def Lane.transaction (x : Lane) (timeout : BitVec 16) (k : AccessKind) (h : HeldPortion) : LaneTxn :=
  { pos := x.pos, kind := k, portion := h.portion, pa := h.pa,
    data := if k.isWrite then portionBytes (x.shapedBytes x.pos) h.portion else 0,
    timeout := timeout, old := h.old }

/-- Every portion of an access is issued: a pointer read is awaited, a data access lets the next position start
(R117 items 1 and 4). -/
def Lane.afterIssue (x : Lane) (k : AccessKind) : Lane :=
  if k.isPointer then { x with cursor := .pointer } else { x with cursor := .begin, place := x.place + 1 }

/-- One step of a lane, `none` when it can take none now (R90, R117). -/
def State.laneStep (s : State) (l : LaneNo) : Option State :=
  let x := s.lane l
  if !x.mayStep then none
  else
    match x.cursor with
    | .begin => some (s.setLane l x.beginPosition)
    | .translate k done [] => some (s.setLane l { x with cursor := .issue k done })
    | .translate k done (p :: todo) =>
      if x.request then none
      else
        match s.requestTranslation x.sid { lane := l, write := k.isWrite, eva := p.eva, trust := x.trust, kind := k } with
        | (s', some pa) =>
          some (s'.setLane l { x with cursor := .translate k (done ++ [{ portion := p, pa := pa }]) todo })
        | (s', none) => some (s'.setLane l { x with request := true })
    | .issue k [] => some (s.setLane l (x.afterIssue k))
    | .issue k (h :: rest) =>
      if x.mayIssue k h then
        some (s.setLane l
          { x with cursor := .issue k rest, txns := x.txns ++ [x.transaction s.busTimeout k h] })
      else none
    | .pointer => if x.ptrLeft = 0 then some (s.setLane l x.followPointer) else none

/-- The steps a lane takes before it must wait: at most 8 transactions are issued, so the bound is never reached.
DESIGN CHOICE: the bound (notes/assumptions/26.md). -/
def State.pumpSteps : Nat → LaneNo → State → State
  | 0, _, s => s
  | n + 1, l, s =>
    match s.laneStep l with
    | none => s
    | some s' => State.pumpSteps n l s'

/-- A lane takes every step it can. DESIGN CHOICE: at once (notes/assumptions/11.md). -/
def State.pump (s : State) (l : LaneNo) : State := State.pumpSteps 256 l s

/-! ## Shaping and progress (R118, R120) -/

/-- The positions of a beat whose data is available shaped in increasing order, from position p on and below `limit`;
and the position that fails strictly, if one does (R103, R118). -/
def shapeSlots (o : BitVec 512) (limit : Option Nat) : Nat → List BeatSlot → List BeatSlot × Option Nat
  | _, [] => ([], none)
  | p, b :: rest =>
    if b.isShaped then
      let (rest', f) := shapeSlots o limit (p + 1) rest
      (b :: rest', f)
    else if b.readsLeft ≠ some 0 ∨ (limit.any fun q => decide (q ≤ p)) then (b :: rest, none)
    else
      let sh := shapeElement o b.raw
      if sh.flags.meets (ordStrict o) then (b :: rest, some p)
      else
        let (rest', f) := shapeSlots o limit (p + 1) rest
        ({ b with isShaped := true, shaped := some sh } :: rest', f)

/-- The lane shapes what it can (R118). -/
def Lane.shapeReady (x : Lane) : Lane :=
  let (slots, f) := shapeSlots x.order (x.failure.map (·.pos)) x.beatStart x.slots
  let x := { x with slots := slots }
  match f with
  | none => x
  | some p => x.fail { pos := p, fault := none }

/-- Whether a position is complete (R120). -/
def Lane.slotComplete (x : Lane) (b : BeatSlot) : Bool :=
  if orderKind x.order = some .digest then b.isShaped else b.writesLeft == some 0

/-- The digest state after a position's shaped bytes (R107). -/
def foldShaped (o : BitVec 512) (p : Progress) (sh : Shaped) : Nat × Nat :=
  if orderKind o = some .digest then
    foldBytes (p.digestA, p.digestB) (bytesOf sh.bytes (fmtSize (ordDstFmt o)))
  else (p.digestA, p.digestB)

/-- The progress after the count passes a position with these shaped bytes and flags (R102, R107, R120). -/
def Progress.pass (p : Progress) (o : BitVec 512) (sh : Shaped) : Progress :=
  { p with
    count := p.count + 1
    flags := p.flags.join sh.flags
    digestA := (foldShaped o p sh).1
    digestB := (foldShaped o p sh).2 }

/-- The count passes the consecutive complete positions, at most n of them (R120). -/
def Lane.countUp : Nat → Lane → Lane
  | 0, x => x
  | n + 1, x =>
    match x.slots[x.progress.count - x.beatStart]? with
    | none => x
    | some b =>
      if x.slotComplete b then
        Lane.countUp n
          { x.modSlot x.progress.count (fun b => { b with shaped := none }) with
            progress := x.progress.pass x.order (b.shaped.getD { bytes := 0, flags := {} }) }
      else x

/-- The count passes every consecutive complete position of the beat (R120). -/
def Lane.count (x : Lane) : Lane := x.countUp x.slots.length

/-! ## Beats (R116, R118, R119) -/

/-- The positions of the beat that starts at position b (R116). -/
def beatLength (o : BitVec 512) (b : Nat) : Nat := min Config.beatPositions (ordCount o - b)

/-- The empty beat buffer of a beat; for a FILL it holds the ramp values (R105, R119). -/
def freshSlots (o : BitVec 512) (b : Nat) : List BeatSlot :=
  if orderKind o = some .fill then
    (List.range (beatLength o b)).map fun j => { shaped := some { bytes := rampBytes o (b + j), flags := {} } }
  else List.replicate (beatLength o b) {}

/-- A beat starts at the progress count, in the phase of the order's kind (R116, R118, R119). -/
def Lane.startBeat (x : Lane) : Lane :=
  { x with
    state := if orderKind x.order = some .fill then .writing else .reading
    beatStart := x.progress.count
    slots := freshSlots x.order x.progress.count
    place := 0
    cursor := .begin
    ptrLeft := 0
    ptrRaw := 0
    failure := none }

/-- The write phase of a MOVE's beat starts (R118; R122 step 2 keeps the failure, which limits it). -/
def Lane.startWritePhase (x : Lane) : Lane := { x with state := .writing, place := 0, cursor := .begin }

/-- The lane takes over a channel's order and progress (R116). -/
def Lane.takeOver (x : Lane) (ch : Channel) : Lane :=
  { x with order := ch.order.getD 0, progress := ch.progress, sid := ch.cfg.sid, trust := ch.cfg.trust }

/-- How a busy lane goes on in the step in which it has nothing outstanding. -/
inductive LaneEnd where
  /-- The takeover of a granted lane (R116). -/
  | takeover
  /-- The next phase or the next beat (R118, R119; R122 step 2). -/
  | beat
  /-- The end of the order without a fault (R121). -/
  | order (status : Status)
  /-- The hand-over of a fault (R122 step 3). -/
  | handover (f : FaultInfo)
  /-- The end of a drain (R124). -/
  | drain
deriving DecidableEq, Repr

/-- The end a lane with no failure has reached (R118, R119, R121). -/
def Lane.cleanEnd (x : Lane) : Option LaneEnd :=
  if x.progress.count = ordCount x.order then some (.order .ok)
  else if x.state = .reading ∧ orderKind x.order = some .move then
    if x.slots.all (·.isShaped) then some .beat else none
  else if x.progress.count = x.beatStart + x.slots.length then some .beat
  else none

/-- The end a lane that settles failure f has reached (R121, R122). -/
def Lane.failedEnd (x : Lane) (f : Failure) : Option LaneEnd :=
  if x.progress.count = f.pos then
    match f.fault with
    | none => some (.order .shapeException)
    | some i => some (.handover i)
  else if x.state = .reading ∧ orderKind x.order = some .move then some .beat
  else none

/-- The end a busy lane has reached, if it has reached one. -/
def Lane.ending (x : Lane) : Option LaneEnd :=
  match x.state with
  | .loading => some .takeover
  | .draining => if x.txns.isEmpty then some .drain else none
  | .reading | .writing =>
    if !x.txns.isEmpty || x.request then none
    else
      match x.failure with
      | none => x.cleanEnd
      | some f => x.failedEnd f
  | _ => none

/-- The lane takes over its order and starts its first beat (R116). -/
def State.laneTakeover (s : State) (l : LaneNo) : State :=
  match (s.lane l).owner with
  | some c => (s.modLane l fun x => (x.takeOver (s.chan c)).startBeat).pump l
  | none => s

/-- The lane moves to the write phase, or to the next beat (R118, R119). -/
def State.laneBeat (s : State) (l : LaneNo) : State :=
  (s.modLane l fun x =>
    if x.state = .reading ∧ orderKind x.order = some .move then x.startWritePhase else x.startBeat).pump l

/-! ## How a lane is released (R111, R112, R121, R122, R124) -/

/-- The lane becomes FREE, or DISABLED by its LANE_ENABLE bit; in RUN grant decisions follow (R112, R113). -/
def State.releaseLane (s : State) (l : LaneNo) : State :=
  let s := s.setLane l { state := if s.laneEnable.getLsbD l.val then .free else .disabled }
  if s.power = .run ∧ s.laneEnable.getLsbD l.val then s.callFor [.grants] else s

/-- The lane returns its progress to its channel (R121, R122, R124). -/
def State.returnProgress (s : State) (l : LaneNo) (c : ChanNo) : State :=
  s.modChan c fun ch => { ch with progress := (s.lane l).progress }

/-- An order ends on the lane without a fault (R121). -/
def State.laneOrderEnd (s : State) (l : LaneNo) (status : Status) : State :=
  match (s.lane l).owner with
  | some c => ((s.returnProgress l c).releaseLane l).enterCompleting c status 0
  | none => s.releaseLane l

/-- A settled fault is handed to the channel (R122 step 3, R148). -/
def State.laneHandover (s : State) (l : LaneNo) (f : FaultInfo) : State :=
  match (s.lane l).owner with
  | some c => ((s.returnProgress l c).releaseLane l).enterFaulted c f
  | none => s.releaseLane l

/-- A drain ends: for ABORT the progress is returned and the order ends ABORTED; for a channel reset or a soft reset
nothing is (R22, R124, R179). -/
def State.laneDrainEnd (s : State) (l : LaneNo) : State :=
  match (s.lane l).owner with
  | some c =>
    if s.power ≠ .resetting ∧ (s.chan c).state = .running then
      ((s.returnProgress l c).releaseLane l).enterCompleting c .aborted 0
    else s.releaseLane l
  | none => s.releaseLane l

/-- Read data that no write carries yet leaves the beat buffer (R124). -/
def BeatSlot.discardUnwritten (b : BeatSlot) : BeatSlot := if b.writesLeft.isNone then {} else b

/-- The abort latch of a lane is set (R124): it drains, abandons its translation request and discards what it holds. -/
def Lane.latch (x : Lane) : Lane :=
  { x with state := .draining, abort := true, cursor := .begin, request := false, failure := none,
           slots := x.slots.map BeatSlot.discardUnwritten }

/-- The abort latch is set, for a lane not draining already; a lane in LOADING has its channel's progress (R111,
R124, R140). -/
def State.latchLane (s : State) (l : LaneNo) : State :=
  let x := s.lane l
  if !x.state.busy || x.state == .draining then s
  else
    let x := if x.state = .loading then x.takeOver (x.owner.elim {} s.chan) else x
    let s := if x.request then s.abandonRequest l else s
    s.setLane l x.latch

/-! ## Answers to a lane's transactions (R84, R118, R120, R122) -/

/-- The k-th outstanding transaction of a lane has ended. -/
def Lane.endTxn (x : Lane) (k : Nat) : Lane := { x with txns := x.txns.eraseIdx k }

/-- The failure of a transaction (R122, R147, R148). -/
def Lane.txnFailure (x : Lane) (t : LaneTxn) (cause : Cause) : Failure :=
  { pos := t.pos
    portion := if t.portion.off = 0 then 0 else 1
    fault := some { cause := cause, access := t.kind, level := 0, element := x.element t.pos,
                    addr := t.portion.eva.setWidth 44, entry := 0 } }

/-- A transaction of the lane ends in an error or a timeout; a draining lane ignores it (R122 to R124). -/
def State.laneTxnFails (s : State) (l : LaneNo) (k : Nat) (t : LaneTxn) (cause : Cause) : State :=
  (s.modLane l fun x =>
    if x.state = .draining then x.endTxn k else (x.endTxn k).fail (x.txnFailure t cause)).pump l

/-- One portion of the pointer read of the position taken has its data (R84). -/
def Lane.pointerData (x : Lane) (t : LaneTxn) (data : BitVec 64) : Lane :=
  if x.state = .draining ∨ x.discards t.pos then x
  else { x with ptrLeft := x.ptrLeft - 1, ptrRaw := x.ptrRaw ||| placeBytes data t.portion }

/-- One fewer portion to wait for. -/
def lessOne (n : Option Nat) : Option Nat := n.map (· - 1)

/-- One read portion of a position has its data; what is complete is shaped, and a DIGEST's progress passes it (R118
to R120). -/
def Lane.readData (x : Lane) (t : LaneTxn) (data : BitVec 64) : Lane :=
  if x.state = .draining ∨ x.discards t.pos then x
  else
    let x := (x.modSlot t.pos fun b =>
      { b with readsLeft := lessOne b.readsLeft, raw := b.raw ||| placeBytes data t.portion }).shapeReady
    if orderKind x.order = some .digest then x.count else x

/-- One write portion of a position is acknowledged; it counts in a drain too (R120, R124). -/
def Lane.writeDone (x : Lane) (t : LaneTxn) : Lane :=
  (x.modSlot t.pos fun b => { b with writesLeft := lessOne b.writesLeft }).count

/-- A translation reaches the lane, unless it discards it (R122, R126). -/
def Lane.translated (x : Lane) (pa : Pa) : Lane :=
  match x.cursor with
  | .translate k done (p :: todo) =>
    { x with request := false, cursor := .translate k (done ++ [{ portion := p, pa := pa }]) todo }
  | _ => { x with request := false }

/-- A walk fault reaches the lane: a failure of the position whose portion was asked for, unless the lane discards it
(R122, R126, R148). -/
def Lane.walkFault (x : Lane) (r : WalkRequest) (cause : Cause) (level : Nat) (entry : Pa) : Lane :=
  match x.cursor with
  | .translate _ _ (p :: _) =>
    ({ x with request := false } : Lane).fail
      { pos := x.pos
        portion := if p.off = 0 then 0 else 1
        fault := some { cause := cause, access := r.kind, level := BitVec.ofNat 2 level, element := x.element x.pos,
                        addr := r.eva.setWidth 44, entry := entry } }
  | _ => { x with request := false }

/-- The response to a pointer read (R84, R90); one that answers no such transaction is discarded (R123). -/
def State.pointerReadResponse (s : State) (l : LaneNo) (k : Nat) (data : Option (BitVec 64)) : State :=
  match (s.lane l).txns[k]? with
  | some t =>
    if t.kind.isPointer then
      match data with
      | some d => (s.modLane l fun x => (x.endTxn k).pointerData t d).pump l
      | none => s.laneTxnFails l k t .busErrorData
    else s
  | none => s

/-- The response to a data read (R118); one that answers no such transaction is discarded (R123). -/
def State.laneReadResponse (s : State) (l : LaneNo) (k : Nat) (data : Option (BitVec 64)) : State :=
  match (s.lane l).txns[k]? with
  | some t =>
    if t.kind.isPointer || t.kind.isWrite then s
    else
      match data with
      | some d => (s.modLane l fun x => (x.endTxn k).readData t d).pump l
      | none => s.laneTxnFails l k t .busErrorData
  | none => s

/-- The response to a data write (R120); one that answers no such transaction is discarded (R123). -/
def State.laneWriteResponse (s : State) (l : LaneNo) (k : Nat) (ok : Bool) : State :=
  match (s.lane l).txns[k]? with
  | some t =>
    if !t.kind.isWrite then s
    else if ok then (s.modLane l fun x => (x.endTxn k).writeDone t).pump l
    else s.laneTxnFails l k t .busErrorData
  | none => s

/-! ## The Lane Scheduler (R113 to R115) -/

/-- The effective class of a channel (R114). -/
def State.effectiveClass (s : State) (c : ChanNo) : Nat :=
  if s.agingLimit ≠ 0 ∧ s.agingLimit.toNat ≤ (s.chan c).passOver.toNat then 4 else (s.chan c).cfg.priority.toNat

/-- The channels in the order of the round-robin pointer, the pointer itself last (R114). -/
def roundRobinOrder (p : ChanNo) : List ChanNo := [p + 1, p + 2, p + 3, p + 4, p + 5, p + 6, p + 7, p]

/-- A channel waits in QUEUED. -/
def State.isQueued (s : State) (c : ChanNo) : Bool := (s.chan c).state == .queued

/-- The highest effective class of the QUEUED channels (R114). -/
def State.topClass (s : State) : Nat :=
  allChannels.foldl (fun m c => if s.isQueued c then max m (s.effectiveClass c) else m) 0

/-- The channel a grant decision chooses (R114). -/
def State.grantWinner (s : State) : Option ChanNo :=
  (roundRobinOrder s.roundRobin).find? fun c => s.isQueued c && s.effectiveClass c == s.topClass

/-- The lane a grant decision chooses: the lowest-numbered FREE lane (R113). -/
def State.grantLane (s : State) : Option LaneNo := allLanes.find? fun l => (s.lane l).state == .free

/-- The pass-over count of a channel after a grant to channel w (R115). -/
def Channel.passedOver (ch : Channel) (won : Bool) : Channel :=
  if won then { ch with state := .running, passOver := 0 }
  else if ch.state = .queued then { ch with passOver := satInc ch.passOver }
  else ch

/-- One grant: the winner runs on the lane, the scheduler's state follows (R22, R113, R115). -/
def State.grant (s : State) (c : ChanNo) (l : LaneNo) : State :=
  let s := allChannels.foldl (fun s d => s.modChan d fun ch => ch.passedOver (d == c)) s
  { s.setLane l { state := .loading, owner := some c } with roundRobin := c }

end Sys2Proof.Machine
end

