-- ==== Sys2Proof/Machine/Walks.lean ====
section
/-! DEFINITION. The walker (R133 to R135, R138 to R142): its attempts, what ends them, and what a walk delivers to
the lanes. -/

namespace Sys2Proof.Machine

/-- One answer reaches its lane; an abandoned request's is discarded (R140). -/
def State.answerLane (s : State) (a : WalkRequest × Answer) : State :=
  if a.1.abandoned then s
  else
    match a.2 with
    | .translation pa => s.modLane a.1.lane fun x => x.translated pa
    | .fault cause level entry => s.modLane a.1.lane fun x => x.walkFault a.1 cause level entry

/-- Answers reach their lanes in one step, and the lanes go on (R140). DESIGN CHOICE: they go on in the order in which
their requests attached to the walk (notes/assumptions/31.md). -/
def State.deliver (s : State) (as : Answers) : State :=
  let s := as.foldl State.answerLane s
  as.foldl (fun s a => if a.1.abandoned then s else s.pump a.1.lane) s

/-- Whether some request receives a translation (R138). -/
def Answers.translates (as : Answers) : Bool :=
  as.any fun a =>
    match a.2 with
    | .translation _ => true
    | .fault _ _ _ => false

/-- The walk ends: it inserts `entry` if it gave a translation, and delivers its answers (R138, R140). -/
def State.endWalk (s : State) (as : Answers) (entry : Option CacheEntry) : State :=
  let cache :=
    match entry with
    | some e => if as.translates then insertCache s.cache e else s.cache
    | none => s.cache
  (State.callFor { s with walker := none, cache := cache } [.walk]).deliver as

/-- The attempt ends: a stale walk starts again, any other delivers (R142). -/
def State.endAttempt (s : State) (w : Walk) (as : Answers) (entry : Option CacheEntry) : State :=
  if w.stale then s.startAttempt { w with stale := false } else s.endWalk as entry

/-- Some request passed its checks and needs an update (R132). -/
def updateNeeded (e : BitVec 64) (rs : List WalkRequest) : Bool :=
  rs.any fun r => (permissionFault e r).isNone && needsUpdate e r

/-- The answer of a request that passed its checks where FLAG_UPDATE is 0 (R132). -/
def flagClearAnswer (e : BitVec 64) (level : Nat) (entry : Pa) (r : WalkRequest) : Answer :=
  if needsUpdate e r then .fault .flagClear level entry else leafTranslation e level r

/-- The walker at a leaf: the exchange, or the end of the attempt (R131, R132, R135 steps 2 and 3). -/
def State.atLeaf (s : State) (w : Walk) (e : BitVec 64) (level : Nat) (entry : Pa) : State :=
  if updateNeeded e w.requests && (s.space w.sid).flagUpdate then
    { s with walker := some
              { walk := w, phase := .exchanging level entry e (updatedLeaf e w.requests), timeout := s.busTimeout } }
  else
    s.endAttempt w (answerLeaf w.requests e level entry (flagClearAnswer e level entry)) (some (leafEntry w e level))

/-- The next table read of an attempt (R128, R135 step 1). -/
def State.nextLevel (s : State) (w : Walk) (base : Pa) (level : Nat) : State :=
  { s with walker := some
            { walk := w, phase := .reading level (entryAddress base (pageEva w.page) level), timeout := s.busTimeout } }

/-- The entry read at a level is examined (R129). -/
def State.entryRead (s : State) (w : Walk) (level : Nat) (entry : Pa) (e : BitVec 64) : State :=
  match examine e level with
  | .fails cause => s.endAttempt w (answerAll w.requests cause level entry) none
  | .table base => s.nextLevel w base (level + 1)
  | .leaf => s.atLeaf w e level entry

/-- The exchange succeeded (R132). -/
def State.exchangeDone (s : State) (w : Walk) (level : Nat) (entry : Pa) (new : BitVec 64) : State :=
  s.endAttempt w (answerLeaf w.requests new level entry (leafTranslation new level)) (some (leafEntry w new level))

/-- The comparison of the exchange failed (R133, R142). -/
def State.compareFailed (s : State) (w : Walk) (level : Nat) (entry : Pa) (leaf : BitVec 64) : State :=
  if w.stale then s.startAttempt { w with stale := false }
  else if w.compareFails + 1 < Config.compareFailureLimit then
    s.startAttempt { w with compareFails := w.compareFails + 1 }
  else s.endWalk (answerLeaf w.requests leaf level entry fun _ => .fault .walkContention level entry) none

/-- The walker's transaction ends in an error or a timeout (R133, R134). -/
def State.walkerFails (s : State) (w : Walker) (cause : Cause) : State :=
  match w.phase with
  | .reading level entry => s.endAttempt w.walk (answerAll w.walk.requests cause level entry) none
  | .exchanging level entry leaf _ =>
    s.endAttempt w.walk (answerLeaf w.walk.requests leaf level entry fun _ => .fault cause level entry) none

/-- The walker stops in RESETTING once its transaction has ended (R135, R179). -/
def State.stopWalker (s : State) : State := { s with walker := none }

/-- The response to the walker's table read (R129, R134). -/
def State.tableReadResponse (s : State) (data : Option (BitVec 64)) : State :=
  match s.walker with
  | none => s
  | some w =>
    match w.phase with
    | .exchanging _ _ _ _ => s
    | .reading level entry =>
      if s.power = .resetting then s.stopWalker
      else
        match data with
        | some e => s.entryRead w.walk level entry e
        | none => s.walkerFails w .busErrorWalk

/-- The response to the walker's exchange (R132, R133). -/
def State.exchangeResponse (s : State) (r : ExchangeResult) : State :=
  match s.walker with
  | none => s
  | some w =>
    match w.phase with
    | .reading _ _ => s
    | .exchanging level entry leaf new =>
      if s.power = .resetting then s.stopWalker
      else
        match r with
        | .swapped => s.exchangeDone w.walk level entry new
        | .mismatch => s.compareFailed w.walk level entry leaf
        | .error => s.walkerFails w .busErrorWalk

/-- The requests of a walk that reaches the head looked up again: the cache, those that hit, those that remain (R139). -/
def splitHits (cache : List CacheEntry) (sid : SpaceNo) : List WalkRequest → List CacheEntry × Answers × List WalkRequest
  | [] => (cache, [], [])
  | r :: rest =>
    match lookupCache cache sid r with
    | some (pa, cache') =>
      let (c, hits, misses) := splitHits cache' sid rest
      (c, (r, .translation pa) :: hits, misses)
    | none =>
      let (c, hits, misses) := splitHits cache sid rest
      (c, hits, r :: misses)

/-- The head of the walk queue leaves it: its hits are answered, the walker starts it with the rest (R135, R139). -/
def State.startWalk (s : State) (w : Walk) (rest : List Walk) : State :=
  let (cache, hits, misses) := splitHits s.cache w.sid w.requests
  let s := { s with walkQueue := rest, cache := cache }
  if misses.isEmpty then (s.callFor [.walk]).deliver hits
  else (s.startAttempt { w with requests := misses, stale := false, compareFails := 0 }).deliver hits

end Sys2Proof.Machine
end

