-- ==== Sys2Proof/Machine/Rings.lean ====
section
/-! DEFINITION. The rings (chapter 3) and what validation starts: fetching, the order read, MARK and WAIT on entry,
the completion record. -/

namespace Sys2Proof.Machine

/-! ## Geometry (R40) -/

/-- The PA of the order with submission index i. -/
def ChannelConfig.orderAddress (g : ChannelConfig) (i : BitVec 16) : Pa :=
  g.sqBase + BitVec.ofNat 44 (i.toNat % g.sqSlots * 64)

/-- The PA of the record with completion index j. -/
def ChannelConfig.recordAddress (g : ChannelConfig) (j : BitVec 16) : Pa :=
  g.cqBase + BitVec.ofNat 44 (j.toNat % g.cqSlots * 32)

/-! ## Starting a fetch (R20, R27, R47, R48) -/

/-- R20 takes the channel out of IDLE or WAITING_SLOT now. -/
def State.fetchDue (s : State) (c : ChanNo) : Bool :=
  let ch := s.chan c
  s.operating && s.power == .run &&
    ((ch.state == .idle && ch.orderPending) || (ch.state == .waitingSlot && ch.slotFree))

/-- FETCHING with the slot reserved, or WAITING_SLOT (R20, R47). -/
def State.fetchStart (s : State) (c : ChanNo) : State :=
  if !s.fetchDue c then s
  else if (s.chan c).slotFree then s.enterFetching c
  else s.modChan c fun ch => { ch with state := .waitingSlot }

/-- The order read of a FETCHING channel is to be issued (R48); held while the engine dozes (R27). -/
def State.ringReadDue (s : State) (c : ChanNo) : Bool :=
  s.operating && s.power == .run && (s.chan c).state == .fetching && !(s.chan c).awaiting

/-- The 64-byte order read is issued (R48). -/
def State.ringReadIssue (s : State) (c : ChanNo) : State :=
  if !s.ringReadDue c then s
  else s.modChan c fun ch =>
    { ch with ring := ch.ring ++
        [{ kind := .read, addr := ch.cfg.orderAddress ch.sqHead, timeout := s.busTimeout }] }

/-! ## Validation and its outcome (R21, R63, R69, R70) -/

/-- The condition of a WAIT (R162). -/
def waitMet (mark threshold : BitVec 32) : Bool := decide (0 ≤ (mark - threshold).toInt)

/-- The progress a valid order starts with: the digest seed of a DIGEST, the direction of an AUTO MOVE (R70, R92,
R106). -/
def startProgress (o : BitVec 512) : Progress :=
  { digestA := if orderKind o = some .digest then (seedDigest (ordSeed o)).1 else 0
    digestB := if orderKind o = some .digest then (seedDigest (ordSeed o)).2 else 0
    down := decidedDown o }

/-- A valid MARK executes: the counter first, then COMPLETING, then the waits on it (R160). -/
def State.runMark (s : State) (c : ChanNo) (o : BitVec 512) : State :=
  let v := (s.chan c).mark + (ordAdd o).setWidth 32
  (s.setMark c v).enterCompleting c .ok v

/-- The wait entry of a WAIT (R162, R163). -/
def waitEntryOf (o : BitVec 512) : WaitEntry :=
  { target := waitTarget o, threshold := ordThreshold o, timeout := ordTimeout o }

/-- A valid WAIT is evaluated on entry (R163). -/
def State.runWait (s : State) (c : ChanNo) (o : BitVec 512) : State :=
  let v := (s.chan (waitTarget o)).mark
  if waitMet v (ordThreshold o) then s.enterCompleting c .ok v
  else if waitTarget o = c then s.enterCompleting c .waitSelf v
  else s.modChan c fun ch => { ch with state := .syncWait, wait := some (waitEntryOf o) }

/-- A valid MOVE, FILL or DIGEST: QUEUED, or COMPLETING at once for COUNT 0 (R21, R75). -/
def State.runData (s : State) (c : ChanNo) (o : BitVec 512) : State :=
  if ordCount o = 0 then s.enterCompleting c .ok 0
  else
    let s := s.modChan c fun ch => { ch with state := .queued }
    if s.power = .run then s.callFor [.grants] else s

/-- A valid order leaves FETCHING by its kind (R21, R70). -/
def State.runOrder (s : State) (c : ChanNo) (k : OrderKind) (o : BitVec 512) : State :=
  match k with
  | .move | .fill | .digest => s.runData c o
  | .mark => s.runMark c o
  | .wait => s.runWait c o
  | .note => s.enterCompleting c .ok 0

/-- The copy is kept and validated, and the channel leaves FETCHING by the outcome (R21, R48, R64). -/
def State.receiveOrder (s : State) (c : ChanNo) (o : BitVec 512) : State :=
  let s := s.modChan c fun ch => { ch with order := some o }
  match validate c (s.chan c).cfg.waitMask o, orderKind o with
  | .ok, some k => (s.modChan c fun ch => { ch with progress := startProgress o }).runOrder c k o
  | status, _ => s.enterCompleting c status 0

/-- A failed order read: the channel is ring-faulted (R48, R149). -/
def State.ringFault (s : State) (c : ChanNo) (cause : Cause) (addr : Pa) : State :=
  s.enterFaulted c { cause := cause, access := .ring, level := 0, element := 0, addr := addr, entry := 0 }

/-- A ring transaction has ended. -/
def State.endRingTxn (s : State) (c : ChanNo) (k : Nat) : State :=
  s.modChan c fun ch => { ch with ring := ch.ring.eraseIdx k }

/-- Whether the channel still waits for this order read (R21, R36, R179). -/
def State.readCounts (s : State) (c : ChanNo) (t : RingTxn) : Bool :=
  t.live && s.operating && (s.chan c).state == .fetching

/-- Whether the channel still waits for this record write (R36, R179). -/
def State.writeCounts (s : State) (c : ChanNo) (t : RingTxn) : Bool :=
  t.live && s.operating && (s.chan c).state == .completing

/-! ## The completion record (R50 to R52) -/

/-- STATUS codes (R146). -/
def Status.code : Status → BitVec 8
  | .ok => 0 | .aborted => 1 | .faultUnresolved => 2 | .invalidKind => 3 | .reservedNonzero => 4
  | .invalidField => 5 | .denied => 6 | .shapeException => 7 | .waitTimeout => 8 | .waitSelf => 9

/-- CAUSE codes (R147). -/
def Cause.code : Cause → BitVec 4
  | .none => 0 | .notMapped => 1 | .readDenied => 2 | .writeDenied => 3 | .ownerOnly => 4 | .entryMalformed => 5
  | .flagClear => 6 | .walkContention => 7 | .addressRange => 8 | .busErrorData => 9 | .busErrorWalk => 10
  | .busTimeout => 11 | .ringReadError => 12 | .completionWriteError => 13

/-- ACCESS codes (R147). -/
def AccessKind.code : AccessKind → BitVec 3
  | .none => 0 | .srcPointer => 1 | .srcData => 2 | .dstPointer => 3 | .dstData => 4 | .ring => 5 | .completion => 6

/-- The statuses of an order that failed validation (R64). -/
def Status.failedValidation : Status → Bool
  | .invalidKind | .reservedNonzero | .invalidField | .denied => true
  | _ => false

/-- RESULT (R51, R108): the digest of a DIGEST that passed validation, else what MARK or WAIT fixed, else 0. -/
def Channel.recordResult (ch : Channel) : BitVec 32 :=
  if ch.status.failedValidation then 0
  else if ch.order.map orderKind = some (some .digest) then digestValue ch.progress.digestA ch.progress.digestB
  else ch.result

/-- Byte 5 of the record: LAP, the sticky flags, EVENT, DIRECTION_DOWN (R51). -/
def Channel.recordFlags (ch : Channel) : BitVec 8 :=
  0#2 ++ bit ch.progress.down ++ bit ((ch.order.map ordEvent).getD false) ++ bit ch.progress.flags.wrapped ++
    bit ch.progress.flags.saturated ++ bit ch.progress.flags.inexact ++ bit ch.lap

/-- The completion record, byte 0 in bits 7..0 (R51). -/
def Channel.record (ch : Channel) (c : ChanNo) (tickCount : BitVec 32) : BitVec 256 :=
  let unresolved := ch.status == .faultUnresolved
  tickCount ++ 0#16 ++ BitVec.ofNat 8 c.val ++
    (if unresolved then ch.fault.cause.code.setWidth 8 else 0#8) ++
    (if unresolved then ch.fault.addr.setWidth 64 else 0#64) ++
    ch.recordResult ++ BitVec.ofNat 32 ch.progress.count ++ ch.sqHead ++ ch.recordFlags ++ ch.status.code ++
    (ch.order.map ordTag).getD 0

/-- The record write of a COMPLETING channel is to be issued (R50); held in DOZE (R27). -/
def State.recordDue (s : State) (c : ChanNo) : Bool :=
  s.operating && s.power != .doze && (s.chan c).state == .completing && !(s.chan c).awaiting

/-- The 32-byte record write is issued (R50). -/
def State.recordIssue (s : State) (c : ChanNo) : State :=
  if !s.recordDue c then s
  else s.modChan c fun ch =>
    { ch with ring := ch.ring ++
        [{ kind := .write (ch.record c s.tickCount), addr := ch.cfg.recordAddress ch.cqTail,
           timeout := s.busTimeout }] }

/-- CQ_TAIL passes the record, LAP toggling at a multiple of Nc (R50, R52). -/
def Channel.recordAccepted (ch : Channel) : Channel :=
  { ch with
    cqTail := ch.cqTail + 1
    lap := if (ch.cqTail + 1).toNat % ch.cfg.cqSlots = 0 then !ch.lap else ch.lap }

/-- The record write has its OK response (R50). -/
def State.recordWritten (s : State) (c : ChanNo) : State :=
  (s.modChan c Channel.recordAccepted).finishOrder c

/-! ## Responses and failures of ring transactions -/

/-- An order read or a record write ends in an error or a timeout (R21, R48, R50, R123). -/
def State.ringTxnFails (s : State) (c : ChanNo) (k : Nat) (t : RingTxn) (timeout : Bool) : State :=
  let s' := s.endRingTxn c k
  match t.kind with
  | .read =>
    if s.readCounts c t then s'.ringFault c (if timeout then .busTimeout else .ringReadError) t.addr else s'
  | .write _ =>
    if s.writeCounts c t then
      s'.enterWedged c (if timeout then .busTimeout else .completionWriteError) t.addr
    else s'

/-- The response to an order read (R48). -/
def State.ringReadResponse (s : State) (c : ChanNo) (k : Nat) (data : Option (BitVec 512)) : State :=
  match (s.chan c).ring[k]? with
  | some t =>
    if t.kind = .read then
      match data with
      | some o => if s.readCounts c t then (s.endRingTxn c k).receiveOrder c o else s.endRingTxn c k
      | none => s.ringTxnFails c k t false
    else s
  | none => s

/-- The response to a record write (R50). -/
def State.completionWriteResponse (s : State) (c : ChanNo) (k : Nat) (ok : Bool) : State :=
  match (s.chan c).ring[k]? with
  | some t =>
    if t.kind = .read then s
    else if ok then (if s.writeCounts c t then (s.endRingTxn c k).recordWritten c else s.endRingTxn c k)
    else s.ringTxnFails c k t false
  | none => s

end Sys2Proof.Machine
end

