-- ==== Sys2Proof/Machine/Commands.lean ====
section
/-! DEFINITION. Channel commands (sections 2.3 and 2.4, chapter 9): each is the state it leads to where it is
accepted, `none` where it is WRONG_STATE; `runCommand` makes the checks of R28 around it. -/

namespace Sys2Proof.Machine

/-- PAUSE (R31). -/
def State.pause (s : State) (c : ChanNo) : Option State :=
  match (s.chan c).state with
  | .idle | .waitingSlot | .fetching | .syncWait => some (s.stopChannel c)
  | .queued | .running | .completing | .faulted =>
    some (s.modChan c fun ch => { ch with pausePending := true })
  | .stopped => some s
  | .disabled | .wedged | .clearing => none

/-- CONTINUE (R33). -/
def State.continueRun (s : State) (c : ChanNo) : Option State :=
  if (s.chan c).state = .stopped then some (s.modChan c fun ch => { ch with state := .idle })
  else if (s.chan c).pausePending && (s.chan c).state != .disabled && (s.chan c).state != .wedged then
    some (s.modChan c fun ch => { ch with pausePending := false })
  else none

/-- RESUME (R34, R153, R154). -/
def State.resumeFault (s : State) (c : ChanNo) : Option State :=
  if (s.chan c).dataFaulted then
    let s := s.modChan c fun ch => { ch with state := .queued }
    some (if s.power = .run then s.callFor [.grants] else s)
  else if (s.chan c).ringFaulted then
    some (if (s.chan c).pausePending then s.stopChannel c else s.enterFetching c)
  else none

/-- FAIL (R34, R155). -/
def State.failOrder (s : State) (c : ChanNo) : Option State :=
  if (s.chan c).dataFaulted then
    some ((s.modChan c fun ch => { ch with afterFault := true }).enterCompleting c .faultUnresolved 0)
  else none

/-- The channel with an abort pending (R35). -/
def Channel.toAbort (ch : Channel) : Channel := { ch with abortPending := true }

/-- The RESULT of a WAIT that ABORT ends: the target's counter in the step of the ABORT (R156). -/
def State.waitValue (s : State) (c : ChanNo) : BitVec 32 :=
  match (s.chan c).wait with
  | some w => (s.chan w.target).mark
  | none => 0

/-- The drain of the lane a channel holds (R124). -/
def State.latchHeld (s : State) (c : ChanNo) : State :=
  match s.heldLane c with
  | some l => s.latchLane l
  | none => s

/-- ABORT (R35, R156). -/
def State.abortOrder (s : State) (c : ChanNo) : Option State :=
  match (s.chan c).state with
  | .idle | .waitingSlot | .fetching => some (s.stopChannel c)
  | .queued => some ((s.modChan c Channel.toAbort).enterCompleting c .aborted 0)
  | .syncWait => some ((s.modChan c Channel.toAbort).enterCompleting c .aborted (s.waitValue c))
  | .faulted =>
    if (s.chan c).ringFaulted then some (s.stopChannel c)
    else some ((s.modChan c fun ch => { ch.toAbort with afterFault := true }).enterCompleting c .aborted 0)
  | .running =>
    if (s.chan c).abortPending then some s else some ((s.modChan c Channel.toAbort).latchHeld c)
  | .completing => some (s.modChan c Channel.toAbort)
  | .stopped => some s
  | .disabled | .wedged | .clearing => none

/-- FLUSH (R34, R54). -/
def State.flush (s : State) (c : ChanNo) : Option State :=
  if (s.chan c).state = .stopped then
    some (s.modChan c fun ch => { ch with flushed := ch.sqTail - ch.sqHead, sqHead := ch.sqTail })
  else none

/-- A ring size within 2 to 12 (R29). -/
def ringSizeOk (n : BitVec 4) : Bool := decide (2 ≤ n.toNat ∧ n.toNat ≤ 12)

/-- A ring base aligned to the ring's size and ending by 2^44 (R29). -/
def ringBaseOk (base : Pa) (bytes : Nat) : Bool :=
  decide (base.toNat % bytes = 0 ∧ base.toNat + bytes ≤ Config.paEnd)

/-- A mode other than DISABLED; the value 3 is treated as DISABLED (R29). -/
def modeUsable (m : BitVec 2) : Bool := m == 1 || m == 2

/-- The configuration check of ENABLE (R29). -/
def State.configOk (s : State) (c : ChanNo) : Bool :=
  let g := (s.chan c).cfg
  let mode := (s.space g.sid).mode
  ringSizeOk g.sqSize && ringSizeOk g.cqSize &&
    ringBaseOk g.sqBase (64 * g.sqSlots) && ringBaseOk g.cqBase (32 * g.cqSlots) &&
    modeUsable mode && (g.trust || mode != 1)

/-- The context after an accepted ENABLE (R30). DEDUCED: the marker of R158 stays (notes/assumptions/20.md). -/
def Channel.enabled (ch : Channel) : Channel :=
  { ch with
    state := .idle, sqHead := 0, sqTail := 0, cqHead := 0, cqTail := 0, lap := true, fault := {}, progress := {} }

/-- ENABLE in DISABLED, its configuration check passed (R30). -/
def State.enable (s : State) (c : ChanNo) : Option State :=
  if (s.chan c).state = .disabled then some (s.modChan c Channel.enabled) else none

/-- DISABLE (R32). DESIGN CHOICE: it is accepted in IDLE in RUN too while an order is pending and its fetch has not
started, which R20 and R28 admit and R32's closing remark leaves out (notes/assumptions/33.md). -/
def State.disable (s : State) (c : ChanNo) : Option State :=
  if (s.chan c).state = .idle ∨ (s.chan c).state = .stopped then
    some (s.modChan c fun ch => { ch with state := .disabled })
  else none

/-- The channel as a channel reset is accepted (R36). -/
def Channel.startClearing (ch : Channel) : Channel :=
  { ch.leaveRing with state := .clearing, pausePending := false, abortPending := false, wait := none, passOver := 0 }

/-- RESET (R36); its end is a step of its own, taken at once when nothing is outstanding. -/
def State.startReset (s : State) (c : ChanNo) : Option State :=
  if (s.chan c).state = .clearing then none
  else some ((s.modChan c Channel.startClearing).latchHeld c)

/-- The result of a command stored (R28). -/
def State.storeResult (s : State) (c : ChanNo) (r : CmdResult) : State :=
  s.modChan c fun ch => { ch with cmdResult := r }

/-- Checks 2, 3 and 5 of R28 around a command's effect. -/
def State.runCommand (s : State) (c : ChanNo) (effect : Option State) : State :=
  if (s.chan c).state = .clearing then s.storeResult c .busy
  else
    match effect with
    | none => s.storeResult c .wrongState
    | some s' => s'.storeResult c .done

/-- ENABLE with its check 4 (R28, R29). -/
def State.runEnable (s : State) (c : ChanNo) : State :=
  if (s.chan c).state = .disabled ∧ s.configOk c = false then s.storeResult c .configInvalid
  else s.runCommand c (s.enable c)

/-- A write of a command code to a command register (R28). -/
def State.commandWrite (s : State) (p : CmdPort) (c : ChanNo) (code : BitVec 8) : State :=
  if !p.accepts code then s.storeResult c .unknownCommand
  else
    match code.toNat with
    | 1 => s.runCommand c (s.pause c)
    | 2 => s.runCommand c (s.continueRun c)
    | 3 => s.runCommand c (s.resumeFault c)
    | 4 => s.runCommand c (s.failOrder c)
    | 5 => s.runCommand c (s.abortOrder c)
    | 6 => s.runCommand c (s.flush c)
    | 0x10 => s.runEnable c
    | 0x11 => s.runCommand c (s.disable c)
    | _ => s.runCommand c (s.startReset c)

/-! ## The end of a channel reset (R37) -/

/-- A CLEARING channel has no lane and nothing outstanding (R36). -/
def State.channelResetDue (s : State) (c : ChanNo) : Bool :=
  s.operating && (s.chan c).state == .clearing && (s.heldLane c).isNone && (s.chan c).ring.isEmpty

/-- The context after a channel reset: the configuration and the last command result are kept (R37). -/
def Channel.afterReset (ch : Channel) : Channel := { cfg := ch.cfg, cmdResult := ch.cmdResult }

/-- The channel reset ends; the waits on its counter are evaluated next (R37, R164). -/
def State.channelResetEnd (s : State) (c : ChanNo) : State :=
  if s.channelResetDue c then (s.modChan c Channel.afterReset).callFor [.waits c] else s

end Sys2Proof.Machine
end

