-- ==== Sys2Proof/Machine/Power.lean ====
section
/-! DEFINITION. Resets, doze, the timebase and the Synchroniser's resolutions (chapters 10 to 12). -/

namespace Sys2Proof.Machine

/-! ## Resets (R177 to R180) -/

/-- Every register and item of state at its engine-reset value; the queue of commands and the port are not the
engine's (R180). -/
def State.engineReset (s : State) (cause : ResetCause) : State :=
  { State.reset with pending := s.pending, port := s.port, resetCause := cause }

/-- RESET_N goes low (R177): the power-on values, with the tick generator stopped. -/
def State.resetLow (s : State) : State := { s.engineReset .powerOn with resetN := false, tick := none }

/-- RESET_N is released (R177). -/
def State.resetHigh (s : State) : State :=
  if s.resetN then s
  else { s with resetN := true, power := .run, resetCause := .powerOn, tick := some s.tickDiv }

/-- A soft reset starts (R178): every busy lane drains, the tick stops, the doze bits are 0. -/
def State.startSoftReset (s : State) : State :=
  let s := allLanes.foldl State.latchLane s
  { s with power := .resetting, dozeReq := false, autoWake := false, tick := none }

/-- Some lane is busy. -/
def State.anyLaneBusy (s : State) : Bool := allLanes.any fun l => (s.lane l).state.busy

/-- Some ring read or record write is in flight. -/
def State.anyRingTxn (s : State) : Bool := allChannels.any fun c => !(s.chan c).ring.isEmpty

/-- Nothing is left outstanding in RESETTING (R179). -/
def State.softResetDue (s : State) : Bool :=
  s.resetN && s.power == .resetting && !s.anyLaneBusy && s.walker.isNone && !s.anyRingTxn

/-- The soft reset ends (R179, R180). -/
def State.softResetEnd (s : State) : State := if s.softResetDue then s.engineReset .soft else s

/-! ## Doze (R181 to R183) -/

/-- The engine is quiescent (R181). -/
def State.quiescent (s : State) : Bool :=
  !s.anyLaneBusy && s.walkQueue.isEmpty && s.walker.isNone && !s.inval.busy && !s.anyRingTxn

/-- The engine becomes quiescent in DOZE_ENTRY (R181). -/
def State.dozeDue (s : State) : Bool := s.resetN && s.power == .dozeEntry && s.quiescent

/-- The power state becomes DOZE (R181). -/
def State.enterDoze (s : State) : State :=
  if s.dozeDue then State.raiseGlobal { s with power := .doze } glbDozeEntered else s

/-- What the PRC does with a DOZE_REQ just stored, by the power state (the table of R181). -/
def State.actOnDozeReq (s : State) (dozeReq : Bool) : State :=
  if dozeReq then if s.power = .run then { s with power := .dozeEntry } else s
  else if s.power = .dozeEntry then State.callFor { s with power := .run } s.releasedSteps
  else if s.power = .doze then s.wakeUp
  else s

/-- A write of ENG_CTL with SOFT_RESET = 0 (R181): the bits are stored, then the PRC acts on DOZE_REQ. -/
def State.writeDoze (s : State) (dozeReq autoWake : Bool) : State :=
  State.actOnDozeReq { s with dozeReq := dozeReq, autoWake := autoWake } dozeReq

/-- The wake that a WAIT resolved in DOZE has called for is owed (R183). -/
def State.wakeOwed (s : State) : Bool := s.operating && s.power == .doze && s.agenda.contains .wake

/-- The wake after the resolution of a WAIT (R183). -/
def State.wakeAfterWait (s : State) : State := if s.wakeOwed then s.wakeUp else s

/-! ## WAITs (R164, R165) -/

/-- The condition of channel c's wait entry (R162). -/
def State.waitSatisfied (s : State) (w : WaitEntry) : Bool := waitMet (s.chan w.target).mark w.threshold

/-- A wait entry is resolved with a status: RESULT is the target's counter; in DOZE a wake follows (R164, R165, R166,
R183). -/
def State.resolveWait (s : State) (c : ChanNo) (w : WaitEntry) (status : Status) : State :=
  let s := if s.power = .doze then s.callFor [.wake] else s
  s.enterCompleting c status (s.chan w.target).mark

/-- The wait entry of a channel in SYNC_WAIT, in an engine that resolves waits (R162, R179). -/
def State.activeWait (s : State) (c : ChanNo) : Option WaitEntry :=
  if s.operating && (s.chan c).state == .syncWait then (s.chan c).wait else none

/-- The evaluation of a waiting channel whose condition holds (R164). -/
def State.waitDue (s : State) (c : ChanNo) : Bool := (s.activeWait c).any s.waitSatisfied

/-- A satisfied WAIT completes with status OK (R164). -/
def State.takeWait (s : State) (c : ChanNo) : State :=
  match s.activeWait c with
  | some w => if s.waitSatisfied w then s.resolveWait c w .ok else s
  | none => s

/-- The entry's tick count has reached its TIMEOUT (R165). -/
def WaitEntry.expired (w : WaitEntry) : Bool := w.timeout != 0 && decide (w.timeout.toNat ≤ w.ticks)

/-- A WAIT expires at this boundary (R165). -/
def State.waitExpiryDue (s : State) (c : ChanNo) : Bool := (s.activeWait c).any (·.expired)

/-- The expiry of a WAIT (R165). -/
def State.expireWait (s : State) (c : ChanNo) : State :=
  match s.activeWait c with
  | some w =>
    if w.expired then s.resolveWait c w (if s.waitSatisfied w then .ok else .waitTimeout) else s
  | none => s

/-! ## The timebase (R168, R169) -/

/-- What a boundary adds to the counts of one channel: its wait entry, its timer, its transactions (R123, R165,
R174). -/
def Channel.tickOn (ch : Channel) : Channel :=
  { ch with
    wait := ch.wait.map fun w => { w with ticks := w.ticks + 1 }
    coalesceTimer := ch.coalesceTimer.map fun t => { t with ticks := t.ticks + 1 }
    ring := ch.ring.map fun t => { t with age := t.age + 1 } }

/-- What a boundary adds to the ages of one lane's transactions (R123). -/
def Lane.tickOn (x : Lane) : Lane := { x with txns := x.txns.map fun t => { t with age := t.age + 1 } }

/-- What a boundary adds to the age of the walker's transaction (R123). -/
def Walker.tickOn (w : Walker) : Walker := { w with age := w.age + 1 }

/-- A tick boundary: TICK_COUNT increases, the next tick takes TICK_DIV's length, the expiries follow (R168, R169). -/
def State.tickBoundary (s : State) : State :=
  if s.operating && s.tick.isSome then
    let s := { s with tickCount := s.tickCount + 1, tick := some s.tickDiv, walker := s.walker.map Walker.tickOn }
    ((s.modChannels Channel.tickOn).modLanes Lane.tickOn).callFor [.expiries]
  else s

/-- A transaction's timeout is reached: T boundaries since the issue, none for T = 0 (R123). -/
def timedOut (timeout : BitVec 16) (age : Nat) : Bool := timeout != 0 && decide (timeout.toNat ≤ age)

/-- The transaction a reference names has reached its timeout (R123). -/
def State.timeoutDue (s : State) (t : TxnRef) : Bool :=
  match t with
  | .lane l k => ((s.lane l).txns[k]?).any fun t => timedOut t.timeout t.age
  | .walker => s.walker.any fun w => timedOut w.timeout w.age
  | .ring c k => ((s.chan c).ring[k]?).any fun t => timedOut t.timeout t.age

/-- A transaction's timeout expires (R123). -/
def State.expireTxn (s : State) (t : TxnRef) : State :=
  if !(s.operating && s.timeoutDue t) then s
  else
    match t with
    | .lane l k =>
      match (s.lane l).txns[k]? with
      | some x => s.laneTxnFails l k x .busTimeout
      | none => s
    | .walker =>
      match s.walker with
      | some w => s.walkerFails w .busTimeout
      | none => s
    | .ring c k =>
      match (s.chan c).ring[k]? with
      | some x => s.ringTxnFails c k x true
      | none => s

/-- A running timer has reached its length (R174). -/
def State.timerDue (s : State) (c : ChanNo) : Bool :=
  s.operating && (s.chan c).coalesceTimer.any fun t => decide (t.length.toNat ≤ t.ticks)

/-- A coalescing timer expires (R174). -/
def State.expireTimer (s : State) (c : ChanNo) : State := if s.timerDue c then s.reportDone c else s

end Sys2Proof.Machine
end

