-- ==== Sys2Proof/Machine/Registers.lean ====
section
/-! DEFINITION. The Register Interface (chapter 1): the checks every access obeys, what a write to each register
does, what a read of each register returns, and the interrupt lines (R176). -/

namespace Sys2Proof.Machine

/-! ## Offsets, for the refusal log (R4, R14) -/

/-- The window offset of register +off of CHCFG[c]. -/
def configOffset (c : ChanNo) (off : Nat) : BitVec 16 := BitVec.ofNat 16 (0x200 + 0x40 * c.val + off)

/-- The window offset of register +off of space descriptor s. -/
def spaceOffset (s : SpaceNo) (off : Nat) : BitVec 16 := BitVec.ofNat 16 (0x100 + 0x10 * s.val + off)

/-- The window offset of the low half of a writable 64-bit register. -/
def reg64Offset : Reg64 → BitVec 16
  | .invalAddr => 0x038
  | .spaceRoot s => spaceOffset s 0x8
  | .sqBase c => configOffset c 0x00
  | .cqBase c => configOffset c 0x0C

/-- The window offsets of the registers that a configuration refusal can protect. -/
def refusalOffset : Reg → BitVec 16
  | .invalCtl => 0x030
  | .spaceCfg s => spaceOffset s 0x0
  | .low r => reg64Offset r
  | .high r => reg64Offset r + 4
  | .sqSize c => configOffset c 0x08
  | .cqSize c => configOffset c 0x14
  | .bind c => configOffset c 0x18
  | .waitMask c => configOffset c 0x1C
  | .evtRoute c => configOffset c 0x20
  | _ => 0

/-! ## Configuration refusals (R10 to R12) -/

/-- The channel whose CHCFG block protects a register (R10). -/
def protectingChannel : Reg → Option ChanNo
  | .low (.sqBase c) | .high (.sqBase c) | .low (.cqBase c) | .high (.cqBase c) => some c
  | .sqSize c | .cqSize c | .bind c | .waitMask c | .evtRoute c => some c
  | _ => none

/-- The space whose descriptor a register belongs to (R11). -/
def protectingSpace : Reg → Option SpaceNo
  | .spaceCfg s | .low (.spaceRoot s) | .high (.spaceRoot s) => some s
  | _ => none

/-- Some channel that is not DISABLED is bound to the space (R11). -/
def State.spaceInUse (s : State) (x : SpaceNo) : Bool :=
  allChannels.any fun c => (s.chan c).state != .disabled && (s.chan c).cfg.sid == x

/-- The reason a write is refused for, if it is (R10 to R12). -/
def State.refusal (s : State) (r : Reg) (data : BitVec 32) : Option (BitVec 3) :=
  if (protectingChannel r).any fun c => (s.chan c).state != .disabled then some refuseChannelEnabled
  else if (protectingSpace r).any s.spaceInUse then some refuseSpaceInUse
  else if r == Reg.invalCtl && data.getLsbD 31 && s.inval.busy then some refuseInvalBusy
  else none

/-! ## What a write to each register does -/

/-- A field of a written value. -/
def fld (data : BitVec 32) (lo n : Nat) : BitVec n := data.extractLsb' lo n

/-- The space number a 4-bit SID field names. -/
def sidField (x : BitVec 4) : SpaceNo := Fin.ofNat 16 x.toNat

/-- The configuration of channel c updated. -/
def State.modConfig (s : State) (c : ChanNo) (f : ChannelConfig → ChannelConfig) : State :=
  s.modChan c fun ch => { ch with cfg := f ch.cfg }

/-- BIND as written (R7). -/
def ChannelConfig.setBind (g : ChannelConfig) (data : BitVec 32) : ChannelConfig :=
  { g with sid := sidField (fld data 0 4), trust := data.getLsbD 4, priority := fld data 8 2,
           stopOnError := data.getLsbD 12, eventAll := data.getLsbD 13 }

/-- A commit of a writable 64-bit register with the written high half and the staging half (R9). -/
def State.commit64 (s : State) (r : Reg64) (data : BitVec 32) : State :=
  let v : BitVec 64 := data ++ s.staging
  match r with
  | .invalAddr => { s with inval := { s.inval with addr := v.setWidth 40 } }
  | .spaceRoot x => s.setSpace x { s.space x with root := v.extractLsb' 12 32 }
  | .sqBase c => s.modConfig c fun g => { g with sqBase := v.setWidth 44 }
  | .cqBase c => s.modConfig c fun g => { g with cqBase := v.setWidth 44 }

/-- One lane after a write of its LANE_ENABLE bit (R111, R112). -/
def Lane.setEnabled (x : Lane) (enabled : Bool) : Lane :=
  if x.state = .free ∧ enabled = false then { x with state := .disabled }
  else if x.state = .disabled ∧ enabled = true then { x with state := .free }
  else x

/-- A write to LANE_ENABLE (R112); in RUN grant decisions follow for the lanes it frees (R113, R182). -/
def State.writeLaneEnable (s : State) (bits : BitVec 4) : State :=
  let freed := allLanes.any fun l => (s.lane l).state == .disabled && bits.getLsbD l.val
  let s : State := allLanes.foldl (fun s l => s.modLane l fun x => x.setEnabled (bits.getLsbD l.val))
    { s with laneEnable := bits }
  if s.power = .run ∧ freed = true then s.callFor [.grants] else s

/-- A write to INVAL_CTL that is not refused (R12, R141). -/
def State.writeInvalCtl (s : State) (scope : BitVec 2) (sid : SpaceNo) (go : Bool) : State :=
  let s := { s with inval := { s.inval with scope := scope, sid := sid } }
  if go then s.startInvalidation else s

/-- A write to ENG_CTL (R178, R181). -/
def State.writeEngCtl (s : State) (soft dozeReq autoWake : Bool) : State :=
  if soft then s.startSoftReset else s.writeDoze dozeReq autoWake

/-- The states in which a doorbell or a CQ_HEAD write is refused whatever its value (R43, R46). -/
def ChState.indexClosed : ChState → Bool
  | .disabled | .clearing => true
  | _ => false

/-- The doorbell check (R42, R43). -/
def Channel.doorbellOk (ch : Channel) (v : BitVec 16) : Bool :=
  !ch.state.indexClosed && decide ((v - ch.sqHead).toNat ≤ ch.cfg.sqSlots) &&
    decide ((ch.sqTail - ch.sqHead).toNat ≤ (v - ch.sqHead).toNat)

/-- A write to SQ_TAIL (R42 to R44); an accepted one wakes the engine in DOZE with AUTO_WAKE (R183). -/
def State.writeDoorbell (s : State) (c : ChanNo) (v : BitVec 16) : State :=
  if (s.chan c).doorbellOk v then
    let s := s.modChan c fun ch => { ch with sqTail := v }
    if s.power = .doze ∧ s.autoWake then s.wakeUp else s
  else s.raise c evtDoorbellRefused

/-- The CQ_HEAD check (R46). -/
def Channel.cqHeadOk (ch : Channel) (v : BitVec 16) : Bool :=
  !ch.state.indexClosed && decide ((v - ch.cqHead).toNat ≤ (ch.cqTail - ch.cqHead).toNat)

/-- A write to CQ_HEAD (R46). -/
def State.writeCqHead (s : State) (c : ChanNo) (v : BitVec 16) : State :=
  if (s.chan c).cqHeadOk v then s.modChan c fun ch => { ch with cqHead := v }
  else s.raise c evtCqHeadRefused

/-- A W1C write to a pending register (R172). -/
def State.clearPending (s : State) (set : EventSet) (data : BitVec 32) : State :=
  match set with
  | .channel c => s.modChan c fun ch => { ch with evtPending := ch.evtPending &&& ~~~(fld data 0 7) }
  | .global => { s with glbPending := s.glbPending &&& ~~~(fld data 0 4) }

/-- A write to REFUSAL_LOG (R15). -/
def State.clearLog (s : State) (data : BitVec 32) : State :=
  if data.getLsbD 0 then { s with refusalLog := {} } else s

/-- A write that has passed every check reaches the owning block (R7); one to a read-only register is discarded (R6). -/
def State.storeRegister (s : State) (r : Reg) (data : BitVec 32) : State :=
  match r with
  | .engCtl => s.writeEngCtl (data.getLsbD 0) (data.getLsbD 1) (data.getLsbD 2)
  | .tickDiv => { s with tickDiv := fld data 0 16 }
  | .busTimeout => { s with busTimeout := fld data 0 16 }
  | .laneEnable => s.writeLaneEnable (fld data 0 4)
  | .agingLimit => { s with agingLimit := fld data 0 8 }
  | .invalCtl => s.writeInvalCtl (fld data 0 2) (sidField (fld data 4 4)) (data.getLsbD 31)
  | .glbEvtPending => s.clearPending .global data
  | .glbEvtMask => { s with glbMask := fld data 0 4 }
  | .glbEvtRoute => { s with glbRoute := fld data 0 2 }
  | .refusalLog => s.clearLog data
  | .spaceCfg x => s.setSpace x { s.space x with mode := fld data 0 2, flagUpdate := data.getLsbD 4 }
  | .low _ => { s with staging := data }
  | .high r => s.commit64 r data
  | .sqSize c => s.modConfig c fun g => { g with sqSize := fld data 0 4 }
  | .cqSize c => s.modConfig c fun g => { g with cqSize := fld data 0 4 }
  | .bind c => s.modConfig c fun g => g.setBind data
  | .waitMask c => s.modConfig c fun g => { g with waitMask := fld data 0 8 }
  | .evtRoute c => s.modConfig c fun g => { g with evtRoute := fld data 0 2 }
  | .coalesce c => s.modConfig c fun g => { g with threshold := fld data 0 8, timer := fld data 16 16 }
  | .command p c => s.commandWrite p c (fld data 0 8)
  | .markSet c => s.setMark c data
  | .sqTail c => s.writeDoorbell c (fld data 0 16)
  | .cqHead c => s.writeCqHead c (fld data 0 16)
  | .evtPending c => s.clearPending (.channel c) data
  | .evtMask c => s.modChan c fun ch => { ch with evtMask := fld data 0 7 }
  | .engId | .engStatus | .resetCause | .tickCount | .laneStatus | .invalStatus => s
  | .sqHead _ | .cqTail _ | .chState _ | .chCmdResult _ | .mark _ | .progress _ | .flushed _ => s
  | .faultCause _ | .faultIndex _ | .faultElement _ => s
  | .faultAddrLo _ | .faultAddrHi _ | .faultEntryLo _ | .faultEntryHi _ => s

/-- A write to an assigned register after the checks of size and assignment (section 1.2). -/
def State.writeRegister (s : State) (r : Reg) (data : BitVec 32) : State :=
  match s.refusal r data with
  | some reason => s.refuse reason (refusalOffset r)
  | none => s.storeRegister r data

/-- The response of the target port. -/
def State.respond (s : State) (p : PortResponse) : State := { s with port := some p }

/-- A 32-bit aligned write, outside reset with the given effect; in reset it is discarded (R3, R16). -/
def State.access (s : State) (effect : State → State) : State :=
  if s.operating then (effect s).respond .ok else s.respond .ok

/-- An access that breaks R4: refused with reason SIZE, logged and raised unless the engine is in reset (R4, R13, R16). -/
def State.sizeRefused (s : State) (off : BitVec 16) : State :=
  if s.operating then (s.refuse refuseSize off).respond .error
  else if s.resetN then s.respond .error
  else s.respond .ok

/-- A 32-bit write at a window offset (R3 to R9). -/
def State.writeAt (s : State) (off : BitVec 16) (data : BitVec 32) : State :=
  if off.toNat % 4 ≠ 0 then s.sizeRefused off
  else
    match decodeOffset off with
    | some r => s.access fun s => s.writeRegister r data
    | none => s.access id

end Sys2Proof.Machine
end

