-- ==== Sys2Proof/Machine/Reads.lean ====
section
/-! DEFINITION. What the engine shows: reads of every register (chapter 1, R17) and the interrupt lines (R176). A
read changes nothing and the table has no row for it, so it is a function of the state. -/

namespace Sys2Proof.Machine

/-- CH_STATE.STATE codes (section 2.2). -/
def ChState.code : ChState → BitVec 4
  | .disabled => 0 | .idle => 1 | .waitingSlot => 2 | .fetching => 3 | .queued => 4 | .running => 5
  | .syncWait => 6 | .completing => 7 | .stopped => 8 | .faulted => 9 | .wedged => 10 | .clearing => 11

/-- CH_CMD_RESULT codes (section 2.3). -/
def CmdResult.code : CmdResult → BitVec 8
  | .done => 0 | .wrongState => 1 | .busy => 2 | .configInvalid => 3 | .unknownCommand => 4

/-- POWER_STATE codes (chapter 1, ENG_STATUS). -/
def PowerState.code : PowerState → BitVec 2
  | .run => 0 | .dozeEntry => 1 | .doze => 2 | .resetting => 3

/-- RESET_CAUSE codes (chapter 1). -/
def ResetCause.code : ResetCause → BitVec 2
  | .powerOn => 1 | .soft => 2

/-- A value of bits placed from bit `lo` of a register up. -/
def putBits {n : Nat} (x : BitVec n) (lo : Nat) : BitVec 32 := x.setWidth 32 <<< lo

/-- The number of busy lanes (R110). -/
def State.busyLanes (s : State) : Nat := (allLanes.filter fun l => (s.lane l).state.busy).length

/-- ENG_STATUS. -/
def State.engStatus (s : State) : BitVec 32 :=
  putBits s.power.code 0 ||| putBits (BitVec.ofNat 3 s.busyLanes) 4 ||| putBits (bit s.walker.isSome) 8 |||
    putBits (bit s.inval.busy) 9

/-- LANE_STATUS (R110). -/
def State.laneStatus (s : State) : BitVec 32 :=
  allLanes.foldl
    (fun v l =>
      if (s.lane l).state.busy then
        v ||| putBits 1#1 (4 * l.val) ||| putBits (BitVec.ofNat 3 (((s.lane l).owner.map (·.val)).getD 0)) (4 * l.val + 1)
      else v) 0

/-- The low or high half of a 64-bit register. -/
def halfOf {n : Nat} (x : BitVec n) (high : Bool) : BitVec 32 :=
  (x.setWidth 64).extractLsb' (if high then 32 else 0) 32

/-- The committed value of a writable 64-bit register (R9). -/
def State.value64 (s : State) : Reg64 → BitVec 64
  | .invalAddr => s.inval.addr.setWidth 64
  | .spaceRoot x => (s.space x).rootPa.setWidth 64
  | .sqBase c => (s.chan c).cfg.sqBase.setWidth 64
  | .cqBase c => (s.chan c).cfg.cqBase.setWidth 64

/-- BIND. -/
def ChannelConfig.bind (g : ChannelConfig) : BitVec 32 :=
  putBits (BitVec.ofNat 4 g.sid.val) 0 ||| putBits (bit g.trust) 4 ||| putBits g.priority 8 |||
    putBits (bit g.stopOnError) 12 ||| putBits (bit g.eventAll) 13

/-- CH_STATE (R19). -/
def State.chStateWord (s : State) (c : ChanNo) : BitVec 32 :=
  let ch := s.chan c
  let lane := s.heldLane c
  putBits ch.state.code 0 ||| putBits (bit ch.pausePending) 4 ||| putBits (bit ch.abortPending) 5 |||
    putBits (bit lane.isSome) 8 ||| putBits (BitVec.ofNat 2 ((lane.map (·.val)).getD 0)) 9 ||| putBits (bit ch.lap) 12

/-- The progress count of a channel: its lane's while it is RUNNING, its own in every other state (R18, R120).
DESIGN CHOICE: in CLEARING with a draining lane it is the count the channel had at the grant
(notes/assumptions/30.md). -/
def State.progressCount (s : State) (c : ChanNo) : Nat :=
  match s.heldLane c with
  | some l =>
    if (s.chan c).state = .running ∧ (s.lane l).state ≠ .loading then (s.lane l).progress.count
    else (s.chan c).progress.count
  | none => (s.chan c).progress.count

/-- FAULT_CAUSE (R147). -/
def FaultRecord.causeWord (f : FaultRecord) : BitVec 32 :=
  putBits f.cause.code 0 ||| putBits f.prior.code 4 ||| putBits f.access.code 8 ||| putBits f.level 12 |||
    putBits f.count 24

/-- The value a register reads as outside reset (R5, R6, R17). -/
def State.registerValue (s : State) (r : Reg) : BitVec 32 :=
  match r with
  | .engId => Config.engId
  | .engCtl => putBits (bit s.dozeReq) 1 ||| putBits (bit s.autoWake) 2
  | .engStatus => s.engStatus
  | .resetCause => putBits s.resetCause.code 0
  | .tickDiv => putBits s.tickDiv 0
  | .tickCount => s.tickCount
  | .busTimeout => putBits s.busTimeout 0
  | .laneEnable => putBits s.laneEnable 0
  | .laneStatus => s.laneStatus
  | .agingLimit => putBits s.agingLimit 0
  | .invalCtl => putBits s.inval.scope 0 ||| putBits (BitVec.ofNat 4 s.inval.sid.val) 4
  | .invalStatus => putBits (bit s.inval.busy) 0 ||| putBits s.inval.requestsDone 8
  | .glbEvtPending => putBits s.glbPending 0
  | .glbEvtMask => putBits s.glbMask 0
  | .glbEvtRoute => putBits s.glbRoute 0
  | .refusalLog =>
    putBits (bit s.refusalLog.valid) 0 ||| putBits s.refusalLog.reason 1 ||| putBits s.refusalLog.offset 8 |||
      putBits s.refusalLog.count 24
  | .spaceCfg x => putBits (s.space x).mode 0 ||| putBits (bit (s.space x).flagUpdate) 4
  | .low r => halfOf (s.value64 r) false
  | .high r => halfOf (s.value64 r) true
  | .sqSize c => putBits (s.chan c).cfg.sqSize 0
  | .cqSize c => putBits (s.chan c).cfg.cqSize 0
  | .bind c => (s.chan c).cfg.bind
  | .waitMask c => putBits (s.chan c).cfg.waitMask 0
  | .evtRoute c => putBits (s.chan c).cfg.evtRoute 0
  | .coalesce c => putBits (s.chan c).cfg.threshold 0 ||| putBits (s.chan c).cfg.timer 16
  | .command _ _ | .markSet _ => 0
  | .sqTail c => putBits (s.chan c).sqTail 0
  | .sqHead c => putBits (s.chan c).sqHead 0
  | .cqHead c => putBits (s.chan c).cqHead 0
  | .cqTail c => putBits (s.chan c).cqTail 0
  | .chState c => s.chStateWord c
  | .chCmdResult c => putBits (s.chan c).cmdResult.code 0
  | .mark c => (s.chan c).mark
  | .evtPending c => putBits (s.chan c).evtPending 0
  | .evtMask c => putBits (s.chan c).evtMask 0
  | .progress c => putBits (BitVec.ofNat 24 (s.progressCount c)) 0
  | .flushed c => putBits (s.chan c).flushed 0
  | .faultCause c => (s.chan c).fault.causeWord
  | .faultIndex c => putBits (s.chan c).fault.index 0
  | .faultElement c => putBits (s.chan c).fault.element 0
  | .faultAddrLo c => halfOf (s.chan c).fault.addr false
  | .faultAddrHi c => halfOf (s.chan c).fault.addr true
  | .faultEntryLo c => halfOf (s.chan c).fault.entry false
  | .faultEntryHi c => halfOf (s.chan c).fault.entry true

/-- The data a 32-bit read at an aligned offset returns, in a state in which no follow-on step is owed (R3, R5, R16). -/
def State.readNow (s : State) (off : BitVec 16) : BitVec 32 :=
  if !s.resetN then 0
  else
    match decodeOffset off with
    | none => 0
    | some r => if s.power = .resetting ∧ r ≠ .engStatus then 0 else s.registerValue r

/-! ## Interrupt lines (R176) -/

/-- A channel is active. -/
def Channel.active (ch : Channel) : Bool := ch.evtPending &&& ch.evtMask != 0

/-- The global set is active. -/
def State.globalActive (s : State) : Bool := s.glbPending &&& s.glbMask != 0

/-- The level of interrupt line n: high when asserted, and deasserted in reset. -/
def State.irq (s : State) (n : BitVec 2) : Bool :=
  s.operating &&
    ((allChannels.any fun c => (s.chan c).cfg.evtRoute == n && (s.chan c).active) ||
      (s.glbRoute == n && s.globalActive))

end Sys2Proof.Machine
end

