-- ==== Sys2Proof/Machine/FollowOns.lean ====
section
/-! DEFINITION. The order of steps (R1): which step is due before any other access or event, each such step, and how
a command is serialised after the steps that are due. A step that a rule places inside another step, but that the
table lists as a row of its own, is due at once after it (notes/assumptions/3.md). -/

namespace Sys2Proof.Machine

/-- The steps the engine takes on its own account (R1). -/
inductive Due where
  | ringRead (c : ChanNo) | record (c : ChanNo)
  | takeover (l : LaneNo) | beat (l : LaneNo) | orderEnd (l : LaneNo) | handover (l : LaneNo) | drainEnd (l : LaneNo)
  | channelResetEnd (c : ChanNo) | invalDone | softResetEnd | dozeEntered
  | busTimeout (t : TxnRef) | waitTimeout (c : ChanNo) | timer (c : ChanNo)
  | waitSatisfied (c : ChanNo) | wake | fetch (c : ChanNo) | grant | walk
deriving DecidableEq, Repr

/-! ## The steps, each without effect where it is not called for -/

/-- LANE_TAKEOVER (R116). -/
def State.takeoverStep (s : State) (l : LaneNo) : State :=
  if (s.lane l).ending = some .takeover then s.laneTakeover l else s

/-- BEAT_END (R118, R119). -/
def State.beatStep (s : State) (l : LaneNo) : State :=
  if (s.lane l).ending = some .beat then s.laneBeat l else s

/-- ORDER_END (R121). -/
def State.orderEndStep (s : State) (l : LaneNo) : State :=
  match (s.lane l).ending with
  | some (.order status) => s.laneOrderEnd l status
  | _ => s

/-- FAULT_HANDOVER (R122 step 3). -/
def State.handoverStep (s : State) (l : LaneNo) : State :=
  match (s.lane l).ending with
  | some (.handover f) => s.laneHandover l f
  | _ => s

/-- DRAIN_END (R124). -/
def State.drainEndStep (s : State) (l : LaneNo) : State :=
  if (s.lane l).ending = some .drain then s.laneDrainEnd l else s

/-- The last old translation of an invalidation is used up (R143); not in RESETTING (R179). -/
def State.invalDue (s : State) : Bool := s.operating && s.inval.busy && !s.oldOutstanding

/-- INVAL_DONE (R143). -/
def State.invalDoneStep (s : State) : State := if s.invalDue then s.endInvalidation else s

/-- A grant decision has a grant to make (R113). -/
def State.grantDue (s : State) : Bool :=
  s.operating && s.power == .run && s.grantLane.isSome && s.grantWinner.isSome

/-- LANE_GRANT (R113 to R115). -/
def State.grantStep (s : State) : State :=
  if s.grantDue then
    match s.grantWinner, s.grantLane with
    | some c, some l => s.grant c l
    | _, _ => s
  else s

/-- The walker is free and a walk waits (R135). -/
def State.walkDue (s : State) : Bool := s.operating && s.walker.isNone && !s.walkQueue.isEmpty

/-- WALK_START (R135, R139). -/
def State.walkStep (s : State) : State :=
  if s.walkDue then
    match s.walkQueue with
    | w :: rest => s.startWalk w rest
    | [] => s
  else s

/-- A step taken. -/
def State.take (s : State) : Due → State
  | .ringRead c => s.ringReadIssue c
  | .record c => s.recordIssue c
  | .takeover l => s.takeoverStep l
  | .beat l => s.beatStep l
  | .orderEnd l => s.orderEndStep l
  | .handover l => s.handoverStep l
  | .drainEnd l => s.drainEndStep l
  | .channelResetEnd c => s.channelResetEnd c
  | .invalDone => s.invalDoneStep
  | .softResetEnd => s.softResetEnd
  | .dozeEntered => s.enterDoze
  | .busTimeout t => s.expireTxn t
  | .waitTimeout c => s.expireWait c
  | .timer c => s.expireTimer c
  | .waitSatisfied c => s.takeWait c
  | .wake => s.wakeAfterWait
  | .fetch c => s.fetchStart c
  | .grant => s.grantStep
  | .walk => s.walkStep

/-! ## Which step is due -/

/-- The first element of a list for which a step is due. -/
def firstDue {α : Type} (f : α → Option Due) : List α → Option Due
  | [] => none
  | a :: rest =>
    match f a with
    | some d => some d
    | none => firstDue f rest

/-- The held or owed transaction of a channel (R20, R48, R50). -/
def State.issueDue (s : State) (c : ChanNo) : Option Due :=
  if s.recordDue c then some (.record c) else if s.ringReadDue c then some (.ringRead c) else none

/-- The step of a lane that has nothing outstanding. -/
def State.laneDue (s : State) (l : LaneNo) : Option Due :=
  match (s.lane l).ending with
  | some .takeover => some (.takeover l)
  | some .beat => some (.beat l)
  | some (.order _) => some (.orderEnd l)
  | some (.handover _) => some (.handover l)
  | some .drain => some (.drainEnd l)
  | none => none

/-- Steps that end what the last step has left with nothing to wait for (R36, R121, R122, R124, R143, R179, R181). -/
def State.endDue (s : State) : Option Due :=
  (firstDue s.laneDue allLanes).or <|
  (firstDue (fun c => if s.channelResetDue c then some (.channelResetEnd c) else none) allChannels).or <|
  (if s.invalDue then some .invalDone else none).or <|
  (if s.softResetDue then some .softResetEnd else none).or <|
  (if s.dozeDue then some .dozeEntered else none)

/-- The first of n transactions of an issuer, in order of issue, whose timeout is reached. -/
def State.firstTimeout (s : State) (ref : Nat → TxnRef) (n : Nat) : Option Due :=
  firstDue (fun k => if s.timeoutDue (ref k) then some (.busTimeout (ref k)) else none) (List.range n)

/-- The expiries of a tick boundary, in the order of R169. -/
def State.expiryDue (s : State) : Option Due :=
  if !s.operating then none
  else
    (firstDue (fun l => s.firstTimeout (.lane l) (s.lane l).txns.length) allLanes).or <|
    (if s.timeoutDue .walker then some (.busTimeout .walker) else none).or <|
    (firstDue (fun c => s.firstTimeout (.ring c) (s.chan c).ring.length) allChannels).or <|
    (firstDue (fun c => if s.waitExpiryDue c then some (.waitTimeout c) else none) allChannels).or <|
    (firstDue (fun c => if s.timerDue c then some (.timer c) else none) allChannels)

/-- The wait on counter t that is evaluated next (R164). -/
def State.waitOn (s : State) (t : ChanNo) : Option Due :=
  firstDue (fun c => if ((s.activeWait c).any (·.target == t)) && s.waitDue c then some (.waitSatisfied c) else none)
    allChannels

/-- The held transition of a channel (R183). -/
def State.heldDue (s : State) (c : ChanNo) : Option Due :=
  (s.issueDue c).or (if s.fetchDue c then some (.fetch c) else none)

/-- The step an entry of the agenda calls for now. An entry none of whose steps is left stays where it is: what it
called for cannot come about again before the agenda is empty (notes/assumptions/4.md). -/
def State.followOnDue (s : State) : FollowOn → Option Due
  | .issue c => s.issueDue c
  | .expiries => s.expiryDue
  | .waits t => s.waitOn t
  | .wake => if s.wakeOwed then some .wake else none
  | .held c => s.heldDue c
  | .grants => if s.grantDue then some .grant else none
  | .walk => if s.walkDue then some .walk else none

/-- The transaction issued in the step that called for it (R20, R50). -/
def State.ownIssueDue (s : State) : Option Due :=
  match s.agenda with
  | .issue c :: _ => s.issueDue c
  | _ => none

/-- The step due before any other access or event (R1): what belongs to the last step, then the follow-on steps.
DEDUCED: their order (notes/assumptions/4.md). -/
def State.nextDue (s : State) : Option Due :=
  s.ownIssueDue.or <| s.endDue.or <| firstDue s.followOnDue s.agenda

/-! ## Serialisation -/

/-- At most n of the steps that are due. -/
def State.settleSteps : Nat → State → State
  | 0, s => s
  | n + 1, s =>
    match s.nextDue with
    | none => s
    | some d => State.settleSteps n (s.take d)

/-- More steps than can be due at once: each expiry of a ring transaction is one, and what the lanes, the walker and
the eight channels can still do without an answer from outside is far below the constant. DESIGN CHOICE
(notes/assumptions/26.md). -/
def State.settleBound (s : State) : Nat :=
  4096 + 16 * (allChannels.foldl (fun n c => n + (s.chan c).ring.length) 0)

/-- The state once every step that is due has been taken (R1). -/
def State.settled (s : State) : State := { s.settleSteps s.settleBound with agenda := [] }

/-- No step is due and none is owed: what software and the memory system find at a command. -/
def State.isSettled (s : State) : Bool := s.agenda.isEmpty && s.nextDue.isNone

/-- An access, or an event from outside, is serialised after the steps that are due (R1). -/
def State.serialise (s : State) (effect : State → State) : State := effect s.settled

/-- An event of the engine's own: taken when it is the step due, and otherwise serialised after those that are.
DESIGN CHOICE: without effect where it is not called for (notes/assumptions/5.md). -/
def State.serialiseDue (s : State) (d : Due) : State :=
  if s.nextDue = some d then s.take d else s.settled.take d

/-- The data a 32-bit read at an aligned offset returns (R3, R17). -/
def State.read (s : State) (off : BitVec 16) : BitVec 32 := s.settled.readNow off

end Sys2Proof.Machine
end

