-- ==== Sys2Proof/Machine/AccessCommands.lean ====
section
/-! DEFINITION. Meanings of the commands. Register accesses and the reset pin: rows POWER_ON_RESET to CQ_HEAD_WRITE and MARK_SET. -/

namespace Sys2Proof.Machine

/-- POWER_ON_RESET (R177). -/
def execPowerOnReset (s : State) : Host.Outcome State Fault Refusal :=
  .next <| s.serialise State.resetLow

/-- RESET_N_RELEASE (R177). -/
def execResetNRelease (s : State) : Host.Outcome State Fault Refusal :=
  .next <| s.serialise State.resetHigh

/-- ILLEGAL_SIZE_ACCESS (R4): an access of 4 bytes at a multiple of 4 does not break R4 and is no such row. -/
def execIllegalSizeAccess (_isWrite : Bool) (off : BitVec 16) (bytes : Nat) (s : State) : Host.Outcome State Fault Refusal :=
  .next <| s.serialise fun s => if bytes = 4 ∧ off.toNat % 4 = 0 then s else s.sizeRefused off

/-- REGISTER_WRITE (R3 to R7). -/
def execRegisterWrite (off : BitVec 16) (data : BitVec 32) (s : State) : Host.Outcome State Fault Refusal :=
  .next <| s.serialise fun s => s.writeAt off data

/-- STAGE_LOW_HALF (R8). -/
def execStageLowHalf (r : Reg64) (data : BitVec 32) (s : State) : Host.Outcome State Fault Refusal :=
  .next <| s.serialise fun s => s.access fun s => s.writeRegister (.low r) data

/-- COMMIT_HIGH_HALF (R9). -/
def execCommitHighHalf (r : Reg64) (data : BitVec 32) (s : State) : Host.Outcome State Fault Refusal :=
  .next <| s.serialise fun s => s.access fun s => s.writeRegister (.high r) data

/-- REFUSAL_LOG_CLEAR (R15). -/
def execRefusalLogClear (data : BitVec 32) (s : State) : Host.Outcome State Fault Refusal :=
  .next <| s.serialise fun s => s.access fun s => s.clearLog data

/-- EVENT_PENDING_CLEAR (R172). -/
def execEventPendingClear (set : EventSet) (data : BitVec 32) (s : State) : Host.Outcome State Fault Refusal :=
  .next <| s.serialise fun s => s.access fun s => s.clearPending set data

/-- LANE_ENABLE (R112). -/
def execLaneEnable (data : BitVec 32) (s : State) : Host.Outcome State Fault Refusal :=
  .next <| s.serialise fun s => s.access fun s => s.writeLaneEnable (fld data 0 4)

/-- INVAL_GO (R12, R141 to R143). -/
def execInvalGo (scope : BitVec 2) (sid : SpaceNo) (s : State) : Host.Outcome State Fault Refusal :=
  .next <| s.serialise fun s => s.access fun s =>
    if s.inval.busy then s.refuse refuseInvalBusy (refusalOffset .invalCtl) else s.writeInvalCtl scope sid true

/-- SOFT_RESET (R178). -/
def execSoftReset (dozeReq autoWake : Bool) (s : State) : Host.Outcome State Fault Refusal :=
  .next <| s.serialise fun s => s.access fun s => s.writeEngCtl true dozeReq autoWake

/-- DOZE_REQ_SET (R181). -/
def execDozeReqSet (autoWake : Bool) (s : State) : Host.Outcome State Fault Refusal :=
  .next <| s.serialise fun s => s.access fun s => s.writeEngCtl false true autoWake

/-- DOZE_REQ_CLEAR (R181, R183). -/
def execDozeReqClear (autoWake : Bool) (s : State) : Host.Outcome State Fault Refusal :=
  .next <| s.serialise fun s => s.access fun s => s.writeEngCtl false false autoWake

/-- DOORBELL (R42 to R44). -/
def execDoorbell (c : ChanNo) (data : BitVec 32) (s : State) : Host.Outcome State Fault Refusal :=
  .next <| s.serialise fun s => s.access fun s => s.writeDoorbell c (fld data 0 16)

/-- CQ_HEAD_WRITE (R46). -/
def execCqHeadWrite (c : ChanNo) (data : BitVec 32) (s : State) : Host.Outcome State Fault Refusal :=
  .next <| s.serialise fun s => s.access fun s => s.writeCqHead c (fld data 0 16)

/-- MARK_SET (R161). -/
def execMarkSet (c : ChanNo) (data : BitVec 32) (s : State) : Host.Outcome State Fault Refusal :=
  .next <| s.serialise fun s => s.access fun s => s.setMark c data

end Sys2Proof.Machine
end

