-- ==== Sys2Proof/Machine/ChannelCommands.lean ====
section
/-! DEFINITION. Meanings of the commands. The channel commands (sections 2.3 and 2.4): rows PAUSE to UNKNOWN_COMMAND. -/

namespace Sys2Proof.Machine

/-- PAUSE (R31). -/
def execCmdPause (c : ChanNo) (_p : CmdPort) (s : State) : Host.Outcome State Fault Refusal :=
  .next <| s.serialise fun s => s.access fun s => s.runCommand c (s.pause c)

/-- CONTINUE (R33). -/
def execCmdContinue (c : ChanNo) (_p : CmdPort) (s : State) : Host.Outcome State Fault Refusal :=
  .next <| s.serialise fun s => s.access fun s => s.runCommand c (s.continueRun c)

/-- RESUME (R34, R153, R154). -/
def execCmdResume (c : ChanNo) (_p : CmdPort) (s : State) : Host.Outcome State Fault Refusal :=
  .next <| s.serialise fun s => s.access fun s => s.runCommand c (s.resumeFault c)

/-- FAIL (R34, R155). -/
def execCmdFail (c : ChanNo) (_p : CmdPort) (s : State) : Host.Outcome State Fault Refusal :=
  .next <| s.serialise fun s => s.access fun s => s.runCommand c (s.failOrder c)

/-- ABORT (R35, R156, R157). -/
def execCmdAbort (c : ChanNo) (_p : CmdPort) (s : State) : Host.Outcome State Fault Refusal :=
  .next <| s.serialise fun s => s.access fun s => s.runCommand c (s.abortOrder c)

/-- FLUSH (R34, R54). -/
def execCmdFlush (c : ChanNo) (_p : CmdPort) (s : State) : Host.Outcome State Fault Refusal :=
  .next <| s.serialise fun s => s.access fun s => s.runCommand c (s.flush c)

/-- ENABLE (R29, R30). -/
def execCmdEnable (c : ChanNo) (s : State) : Host.Outcome State Fault Refusal :=
  .next <| s.serialise fun s => s.access fun s => s.runEnable c

/-- DISABLE (R32). -/
def execCmdDisable (c : ChanNo) (s : State) : Host.Outcome State Fault Refusal :=
  .next <| s.serialise fun s => s.access fun s => s.runCommand c (s.disable c)

/-- RESET (R36). -/
def execCmdReset (c : ChanNo) (s : State) : Host.Outcome State Fault Refusal :=
  .next <| s.serialise fun s => s.access fun s => s.runCommand c (s.startReset c)

/-- UNKNOWN_COMMAND (R28): a write of a code to a command register, whatever the code. -/
def execUnknownCommand (c : ChanNo) (p : CmdPort) (code : BitVec 8) (s : State) : Host.Outcome State Fault Refusal :=
  .next <| s.serialise fun s => s.access fun s => s.commandWrite p c code

/-- CHANNEL_RESET_END (R37). -/
def execChannelResetEnd (c : ChanNo) (s : State) : Host.Outcome State Fault Refusal :=
  .next <| s.serialiseDue (.channelResetEnd c)

end Sys2Proof.Machine
end

