-- ==== Sys2Proof/Machine/LaneCommands.lean ====
section
/-! DEFINITION. Meanings of the commands. The lanes: grants, beats, answers, and how an order leaves a lane (chapter 7). -/

namespace Sys2Proof.Machine

/-- LANE_GRANT (R113 to R115). -/
def execLaneGrant (s : State) : Host.Outcome State Fault Refusal :=
  .next <| s.serialiseDue .grant

/-- LANE_TAKEOVER (R116). -/
def execLaneTakeover (l : LaneNo) (s : State) : Host.Outcome State Fault Refusal :=
  .next <| s.serialiseDue (.takeover l)

/-- POINTER_READ_RESPONSE (R84). -/
def execPointerReadResponse (l : LaneNo) (k : Nat) (data : Option (BitVec 64)) (s : State) : Host.Outcome State Fault Refusal :=
  .next <| s.serialise fun s => s.pointerReadResponse l k data

/-- LANE_READ_RESPONSE (R118). -/
def execLaneReadResponse (l : LaneNo) (k : Nat) (data : Option (BitVec 64)) (s : State) : Host.Outcome State Fault Refusal :=
  .next <| s.serialise fun s => s.laneReadResponse l k data

/-- LANE_WRITE_RESPONSE (R120). -/
def execLaneWriteResponse (l : LaneNo) (k : Nat) (ok : Bool) (s : State) : Host.Outcome State Fault Refusal :=
  .next <| s.serialise fun s => s.laneWriteResponse l k ok

/-- BEAT_END (R118, R119). -/
def execBeatEnd (l : LaneNo) (s : State) : Host.Outcome State Fault Refusal :=
  .next <| s.serialiseDue (.beat l)

/-- ORDER_END (R121). -/
def execOrderEnd (l : LaneNo) (s : State) : Host.Outcome State Fault Refusal :=
  .next <| s.serialiseDue (.orderEnd l)

/-- FAULT_HANDOVER (R122 step 3, R148). -/
def execFaultHandover (l : LaneNo) (s : State) : Host.Outcome State Fault Refusal :=
  .next <| s.serialiseDue (.handover l)

/-- DRAIN_END (R124). -/
def execDrainEnd (l : LaneNo) (s : State) : Host.Outcome State Fault Refusal :=
  .next <| s.serialiseDue (.drainEnd l)

end Sys2Proof.Machine
end

