-- ==== Sys2Proof/Machine/RingCommands.lean ====
section
/-! DEFINITION. Meanings of the commands. The rings: fetching an order and writing its record (chapter 3). -/

namespace Sys2Proof.Machine

/-- FETCH_START (R20, R47). -/
def execFetchStart (c : ChanNo) (s : State) : Host.Outcome State Fault Refusal :=
  .next <| s.serialiseDue (.fetch c)

/-- RING_READ_ISSUE (R48). -/
def execRingReadIssue (c : ChanNo) (s : State) : Host.Outcome State Fault Refusal :=
  .next <| s.serialiseDue (.ringRead c)

/-- RING_READ_RESPONSE (R21, R48). -/
def execRingReadResponse (c : ChanNo) (k : Nat) (data : Option (BitVec 512)) (s : State) : Host.Outcome State Fault Refusal :=
  .next <| s.serialise fun s => s.ringReadResponse c k data

/-- COMPLETION_WRITE_ISSUE (R50). -/
def execCompletionWriteIssue (c : ChanNo) (s : State) : Host.Outcome State Fault Refusal :=
  .next <| s.serialiseDue (.record c)

/-- COMPLETION_WRITE_RESPONSE (R50). -/
def execCompletionWriteResponse (c : ChanNo) (k : Nat) (ok : Bool) (s : State) : Host.Outcome State Fault Refusal :=
  .next <| s.serialise fun s => s.completionWriteResponse c k ok

end Sys2Proof.Machine
end

