-- ==== Sys2Proof/Machine/TimeCommands.lean ====
section
/-! DEFINITION. Meanings of the commands. The timebase, the Synchroniser, doze and the end of a soft reset (chapters 10 to 12). -/

namespace Sys2Proof.Machine

/-- TICK_BOUNDARY (R169). -/
def execTickBoundary (s : State) : Host.Outcome State Fault Refusal :=
  .next <| s.serialise State.tickBoundary

/-- BUS_TIMEOUT (R123). -/
def execBusTimeoutExpiry (t : TxnRef) (s : State) : Host.Outcome State Fault Refusal :=
  .next <| s.serialiseDue (.busTimeout t)

/-- WAIT_TIMEOUT (R165). -/
def execWaitTimeout (c : ChanNo) (s : State) : Host.Outcome State Fault Refusal :=
  .next <| s.serialiseDue (.waitTimeout c)

/-- COALESCING_TIMER_EXPIRY (R174). -/
def execCoalescingTimerExpiry (c : ChanNo) (s : State) : Host.Outcome State Fault Refusal :=
  .next <| s.serialiseDue (.timer c)

/-- WAIT_SATISFIED (R164). -/
def execWaitSatisfied (c : ChanNo) (s : State) : Host.Outcome State Fault Refusal :=
  .next <| s.serialiseDue (.waitSatisfied c)

/-- WAKE (R183). -/
def execWake (s : State) : Host.Outcome State Fault Refusal :=
  .next <| s.serialiseDue .wake

/-- SOFT_RESET_END (R179, R180). -/
def execSoftResetEnd (s : State) : Host.Outcome State Fault Refusal :=
  .next <| s.serialiseDue .softResetEnd

/-- DOZE_ENTERED (R181). -/
def execDozeEntered (s : State) : Host.Outcome State Fault Refusal :=
  .next <| s.serialiseDue .dozeEntered

end Sys2Proof.Machine
end

