-- ==== Sys2Proof/Machine/WalkCommands.lean ====
section
/-! DEFINITION. Meanings of the commands. The Translation Unit's walks and invalidations (chapter 8). -/

namespace Sys2Proof.Machine

/-- WALK_START (R135, R139). -/
def execWalkStart (s : State) : Host.Outcome State Fault Refusal :=
  .next <| s.serialiseDue .walk

/-- TABLE_READ_RESPONSE (R129, R134). -/
def execTableReadResponse (data : Option (BitVec 64)) (s : State) : Host.Outcome State Fault Refusal :=
  .next <| s.serialise fun s => s.tableReadResponse data

/-- EXCHANGE_RESPONSE (R132, R133). -/
def execExchangeResponse (r : ExchangeResult) (s : State) : Host.Outcome State Fault Refusal :=
  .next <| s.serialise fun s => s.exchangeResponse r

/-- INVAL_DONE (R143). -/
def execInvalDone (s : State) : Host.Outcome State Fault Refusal :=
  .next <| s.serialiseDue .invalDone

end Sys2Proof.Machine
end

