-- ==== Sys2Proof/Machine/Dispatch.lean ====
section
/-! DEFINITION. The dispatch: one arm per row of the table, each one call of its meaning. -/

namespace Sys2Proof.Machine

/-- The effect of a command on everything but the queue. -/
def exec (i : Instr) (s : State) : Host.Outcome State Fault Refusal :=
  match i with
  | .powerOnReset => Sys2Proof.Machine.execPowerOnReset s
  | .resetNRelease => Sys2Proof.Machine.execResetNRelease s
  | .illegalSizeAccess isWrite off bytes => Sys2Proof.Machine.execIllegalSizeAccess isWrite off bytes s
  | .registerWrite off data => Sys2Proof.Machine.execRegisterWrite off data s
  | .stageLowHalf r data => Sys2Proof.Machine.execStageLowHalf r data s
  | .commitHighHalf r data => Sys2Proof.Machine.execCommitHighHalf r data s
  | .refusalLogClear data => Sys2Proof.Machine.execRefusalLogClear data s
  | .eventPendingClear set data => Sys2Proof.Machine.execEventPendingClear set data s
  | .laneEnable data => Sys2Proof.Machine.execLaneEnable data s
  | .invalGo scope sid => Sys2Proof.Machine.execInvalGo scope sid s
  | .softReset dozeReq autoWake => Sys2Proof.Machine.execSoftReset dozeReq autoWake s
  | .dozeReqSet autoWake => Sys2Proof.Machine.execDozeReqSet autoWake s
  | .dozeReqClear autoWake => Sys2Proof.Machine.execDozeReqClear autoWake s
  | .doorbell c data => Sys2Proof.Machine.execDoorbell c data s
  | .cqHeadWrite c data => Sys2Proof.Machine.execCqHeadWrite c data s
  | .markSet c data => Sys2Proof.Machine.execMarkSet c data s
  | .cmdPause c p => Sys2Proof.Machine.execCmdPause c p s
  | .cmdContinue c p => Sys2Proof.Machine.execCmdContinue c p s
  | .cmdResume c p => Sys2Proof.Machine.execCmdResume c p s
  | .cmdFail c p => Sys2Proof.Machine.execCmdFail c p s
  | .cmdAbort c p => Sys2Proof.Machine.execCmdAbort c p s
  | .cmdFlush c p => Sys2Proof.Machine.execCmdFlush c p s
  | .cmdEnable c => Sys2Proof.Machine.execCmdEnable c s
  | .cmdDisable c => Sys2Proof.Machine.execCmdDisable c s
  | .cmdReset c => Sys2Proof.Machine.execCmdReset c s
  | .unknownCommand c p code => Sys2Proof.Machine.execUnknownCommand c p code s
  | .tickBoundary => Sys2Proof.Machine.execTickBoundary s
  | .busTimeoutExpiry t => Sys2Proof.Machine.execBusTimeoutExpiry t s
  | .waitTimeout c => Sys2Proof.Machine.execWaitTimeout c s
  | .coalescingTimerExpiry c => Sys2Proof.Machine.execCoalescingTimerExpiry c s
  | .fetchStart c => Sys2Proof.Machine.execFetchStart c s
  | .ringReadIssue c => Sys2Proof.Machine.execRingReadIssue c s
  | .ringReadResponse c k data => Sys2Proof.Machine.execRingReadResponse c k data s
  | .completionWriteIssue c => Sys2Proof.Machine.execCompletionWriteIssue c s
  | .completionWriteResponse c k ok => Sys2Proof.Machine.execCompletionWriteResponse c k ok s
  | .laneGrant => Sys2Proof.Machine.execLaneGrant s
  | .laneTakeover l => Sys2Proof.Machine.execLaneTakeover l s
  | .pointerReadResponse l k data => Sys2Proof.Machine.execPointerReadResponse l k data s
  | .laneReadResponse l k data => Sys2Proof.Machine.execLaneReadResponse l k data s
  | .laneWriteResponse l k ok => Sys2Proof.Machine.execLaneWriteResponse l k ok s
  | .beatEnd l => Sys2Proof.Machine.execBeatEnd l s
  | .orderEnd l => Sys2Proof.Machine.execOrderEnd l s
  | .faultHandover l => Sys2Proof.Machine.execFaultHandover l s
  | .drainEnd l => Sys2Proof.Machine.execDrainEnd l s
  | .walkStart => Sys2Proof.Machine.execWalkStart s
  | .tableReadResponse data => Sys2Proof.Machine.execTableReadResponse data s
  | .exchangeResponse r => Sys2Proof.Machine.execExchangeResponse r s
  | .invalDone => Sys2Proof.Machine.execInvalDone s
  | .waitSatisfied c => Sys2Proof.Machine.execWaitSatisfied c s
  | .wake => Sys2Proof.Machine.execWake s
  | .channelResetEnd c => Sys2Proof.Machine.execChannelResetEnd c s
  | .softResetEnd => Sys2Proof.Machine.execSoftResetEnd s
  | .dozeEntered => Sys2Proof.Machine.execDozeEntered s

end Sys2Proof.Machine
end

