-- ==== Sys2Proof/Safety.lean ====
section
/-! DEFINITION. What a safe state of the engine is: the conditions that the manual says hold at every moment, each
as a Boolean of the state. -/

namespace Sys2Proof.Safety

open Sys2Proof.Machine

/-- VALID of REFUSAL_LOG is 1 exactly when its COUNT is not 0 (R14). -/
def refusalLogOk (s : State) : Bool := s.refusalLog.valid == (s.refusalLog.count != 0)

/-- DOZE_REQ is 1 exactly in DOZE_ENTRY and DOZE (R181), and it is 0 while RESET_N is low (R177, R180). -/
def dozeOk (s : State) : Bool :=
  s.dozeReq == (s.power == .dozeEntry || s.power == .doze) && (s.resetN || !s.dozeReq)

/-- PAUSE_PENDING is 1 only in QUEUED, RUNNING, COMPLETING and FAULTED (R19). -/
def pauseAllowed (st : ChState) : Bool := st == .queued || st == .running || st == .completing || st == .faulted

/-- ABORT_PENDING is 1 only in RUNNING and COMPLETING (R19). -/
def abortAllowed (st : ChState) : Bool := st == .running || st == .completing

/-- The pending flags of a channel are 0 in every state that does not admit them (R19). -/
def pendingFlagsOk (s : State) : Bool :=
  allChannels.all fun c =>
    (!(s.chan c).pausePending || pauseAllowed (s.chan c).state) &&
      (!(s.chan c).abortPending || abortAllowed (s.chan c).state)

/-- The coalescing timer runs only while the counter is above 0, and the counter stays at or below 254 (R173, R174). -/
def coalescingOk (s : State) : Bool :=
  allChannels.all fun c =>
    ((s.chan c).coalesceTimer.isNone || (s.chan c).coalesceCount != 0) &&
      decide ((s.chan c).coalesceCount.toNat ≤ 254)

/-- No lane has more than 8 transactions outstanding (R117 item 3). -/
def laneTransactionsOk (s : State) : Bool :=
  allLanes.all fun l => decide ((s.lane l).txns.length ≤ Config.laneTransactions)

/-- No entry of a cache list overlaps a later one. -/
def noOverlap : List CacheEntry → Bool
  | [] => true
  | e :: rest => rest.all (fun f => !e.overlaps f) && noOverlap rest

/-- The cache holds at most 32 entries, and no two of one space overlap (R136, R138). -/
def cacheOk (s : State) : Bool := decide (s.cache.length ≤ Config.cacheSlots) && noOverlap s.cache

/-- A digest state has both sums from 0 to 65518 (R106). -/
def digestOk (p : Progress) : Bool :=
  decide (p.digestA < Config.digestModulus) && decide (p.digestB < Config.digestModulus)

/-- Every digest state the engine holds is in range (R106). -/
def digestsOk (s : State) : Bool :=
  allChannels.all (fun c => digestOk (s.chan c).progress) && allLanes.all fun l => digestOk (s.lane l).progress

/-- A busy lane serves a channel that is RUNNING, or CLEARING while the lane drains; a lane that is not busy serves
none (R19, R22, R36, R110). -/
def laneServes (s : State) (l : LaneNo) : Bool :=
  if (s.lane l).state.busy then
    (s.lane l).owner.any fun c =>
      (s.chan c).state == .running || ((s.chan c).state == .clearing && (s.lane l).state == .draining)
  else (s.lane l).owner.isNone

/-- Lanes and channels agree: every lane serves as `laneServes` says, no two busy lanes serve one channel, and outside
a soft reset every RUNNING channel holds a lane (R19, R22); while RESET_N is low the power state is RUN (R177, R180). -/
def lanesOk (s : State) : Bool :=
  allLanes.all (laneServes s) &&
    allLanes.all (fun l => allLanes.all fun m =>
      l == m || !(s.lane l).state.busy || (s.lane l).owner != (s.lane m).owner) &&
    (s.resetN || s.power == .run) &&
    (s.power == .resetting ||
      allChannels.all fun c => (s.chan c).state != .running || (s.heldLane c).isSome)

/-- A channel has a wait entry exactly while it is in SYNC_WAIT (R162, R166). -/
def waitsOk (s : State) : Bool := allChannels.all fun c => (s.chan c).wait.isSome == ((s.chan c).state == .syncWait)

/-- In every channel state but DISABLED and CLEARING, which a RESET enters from DISABLED too (R36), the completion
ring's size is legal and LAP is 1 exactly while CQ_TAIL div Nc is even (R29, R52). -/
def lapOk (s : State) : Bool :=
  allChannels.all fun c =>
    (s.chan c).state == .disabled || (s.chan c).state == .clearing ||
      (decide (2 ≤ (s.chan c).cfg.cqSize.toNat) && decide ((s.chan c).cfg.cqSize.toNat ≤ 12) &&
        (s.chan c).lap == decide ((s.chan c).cqTail.toNat / (s.chan c).cfg.cqSlots % 2 = 0))

/-- Every condition above. -/
def safe (s : State) : Bool :=
  refusalLogOk s && dozeOk s && pendingFlagsOk s && coalescingOk s && laneTransactionsOk s && cacheOk s &&
    digestsOk s && lanesOk s && waitsOk s && lapOk s

end Sys2Proof.Safety
end

