-- ==== Sys2Proof/Certificates/Slice0/Obligations.lean ====
section
/-! DEFINITION. The statements about the engine that the provers are asked for. `s.settled` is the state a command
finds: every step that is due before it has been taken (R1). An equation `exec c s = .next t` is the command's whole
effect: what `t` does not write is unchanged. -/

open Sys2Proof Sys2Proof.Machine

namespace Sys2Proof.Certificates

/-! ## What the rules say, written out once -/

/-- REFUSAL_LOG after a refusal (R14). -/
def logAfter (g : RefusalLog) (reason : BitVec 3) (off : BitVec 16) : RefusalLog :=
  { valid := true
    reason := if g.valid then g.reason else reason
    offset := if g.valid then g.offset else off
    count := if g.count = 255#8 then 255#8 else g.count + 1#8 }

/-- A refused access: the log, ACCESS_REFUSED and the response, nothing else (R13). -/
def refusedAccess (u : State) (reason : BitVec 3) (off : BitVec 16) (p : PortResponse) : State :=
  { u with refusalLog := logAfter u.refusalLog reason off, glbPending := u.glbPending ||| 0x2#4, port := some p }

/-- The register accesses that are 32 bits wide and aligned. -/
def isAccess : Instr → Bool
  | .registerWrite off _ => off.toNat % 4 == 0
  | .stageLowHalf _ _ | .commitHighHalf _ _ | .refusalLogClear _ | .eventPendingClear _ _ | .laneEnable _ => true
  | .invalGo _ _ | .softReset _ _ | .dozeReqSet _ | .dozeReqClear _ | .doorbell _ _ | .cqHeadWrite _ _ => true
  | .markSet _ _ | .cmdPause _ _ | .cmdContinue _ _ | .cmdResume _ _ | .cmdFail _ _ | .cmdAbort _ _ => true
  | .cmdFlush _ _ | .cmdEnable _ | .cmdDisable _ | .cmdReset _ | .unknownCommand _ _ _ => true
  | _ => false

/-- The nine commands to channel c, each with whether the acceptance table of section 2.3 admits it in the channel's
state; ENABLE counts as admitted in DISABLED, its configuration aside. -/
def commands (c : ChanNo) (p : CmdPort) (ch : Channel) : List (Instr × Bool) :=
  let st := ch.state
  let ordered := st == .queued || st == .running || st == .completing || st == .faulted
  let halted := st == .disabled || st == .wedged || st == .clearing
  [(.cmdPause c p, !halted),
   (.cmdContinue c p, st == .stopped || (ch.pausePending && ordered)),
   (.cmdResume c p, st == .faulted),
   (.cmdFail c p, st == .faulted && ch.fault.access != .ring),
   (.cmdAbort c p, !halted),
   (.cmdFlush c p, st == .stopped),
   (.cmdEnable c, st == .disabled),
   (.cmdDisable c, st == .idle || st == .stopped),
   (.cmdReset c, st != .clearing)]

/-- A channel with its pause flag raised only where R19 admits it. -/
def pauseFlagOk (ch : Channel) : Bool := !ch.pausePending || Safety.pauseAllowed ch.state

/-- The event fields after causes that flush the coalescing counter (R175). -/
def flushed (ch : Channel) (causes : BitVec 7) : Channel :=
  { ch with
    evtPending := ch.evtPending ||| causes ||| (if ch.coalesceCount = 0#8 then 0#7 else 0x01#7)
    coalesceCount := 0#8
    coalesceTimer := if ch.coalesceCount = 0#8 then ch.coalesceTimer else none }

/-- A channel that enters STOPPED without a record (R19, R26, R31, R35): its copy and both flags go, transactions in
flight are left to end, STOPPED is raised, the indices stay. -/
def stoppedChannel (ch : Channel) : Channel :=
  flushed
    { ch with
      state := .stopped, pausePending := false, abortPending := false, order := none, wait := none
      ring := ch.ring.map fun t => { t with live := false } } 0x08#7

/-- A channel that enters COMPLETING with an order that writes a record (R24, R115, R146). -/
def completingChannel (ch : Channel) (status : Status) (result : BitVec 32) : Channel :=
  { ch with state := .completing, status := status, result := result, wait := none, passOver := 0#8 }

/-- The record write that follows an entry to COMPLETING at once, unless the engine dozes (R27, R50). -/
def recordOwed (u : State) (c : ChanNo) : List FollowOn := if u.power = .doze then [] else [.issue c]

/-- The event fields after one counted success (R173, R174): DONE when the counter reaches the threshold, 0 counting as
1, and else one more in the counter, which starts the timer at 1. -/
def countedChannel (ch : Channel) : Channel :=
  if max 1 ch.cfg.threshold.toNat ≤ ch.coalesceCount.toNat + 1 then
    { ch with evtPending := ch.evtPending ||| 0x01#7, coalesceCount := 0#8, coalesceTimer := none }
  else
    { ch with
      coalesceCount := ch.coalesceCount + 1#8
      coalesceTimer := if ch.coalesceCount = 0#8 ∧ ch.cfg.timer ≠ 0#16 then some { length := ch.cfg.timer, ticks := 0 }
                       else ch.coalesceTimer }

/-- A channel whose order's outcome is final (R24, R45, R170, R173, R175): an OK outcome counts toward DONE by EVENT or
EVENT_ALL; any other raises ERROR; STOPPED is chosen, and raised, for a pending flag or for STOP_ON_ERROR; a cause
flushes the counter; SQ_HEAD passes the order and its copy goes. -/
def finishedChannel (ch : Channel) (status : Status) : Channel :=
  let counts := (ch.order.map fun o => o.getLsbD 9).getD false || ch.cfg.eventAll
  let stops := ch.abortPending || ch.pausePending || (status != .ok && ch.cfg.stopOnError)
  let causes : BitVec 7 := (if status = .ok then 0x00#7 else 0x02#7) ||| (if stops then 0x08#7 else 0x00#7)
  let counted := if status = .ok ∧ counts = true then countedChannel ch else ch
  let told := if causes = 0#7 then counted else flushed counted causes
  { told with
    state := if stops then .stopped else .idle
    pausePending := if stops then false else ch.pausePending
    abortPending := if stops then false else ch.abortPending
    sqHead := ch.sqHead + 1#16, order := none }

/-- The configuration check of ENABLE (R29), written out. -/
def ConfigurationOk (u : State) (c : ChanNo) : Prop :=
  let g := (u.chan c).cfg
  let mode := (u.space g.sid).mode
  (2 ≤ g.sqSize.toNat ∧ g.sqSize.toNat ≤ 12 ∧ 2 ≤ g.cqSize.toNat ∧ g.cqSize.toNat ≤ 12) ∧
    (g.sqBase.toNat % (64 * 2 ^ g.sqSize.toNat) = 0 ∧ g.cqBase.toNat % (32 * 2 ^ g.cqSize.toNat) = 0) ∧
    (g.sqBase.toNat + 64 * 2 ^ g.sqSize.toNat ≤ 2 ^ 44 ∧ g.cqBase.toNat + 32 * 2 ^ g.cqSize.toNat ≤ 2 ^ 44) ∧
    (mode = 1#2 ∨ mode = 2#2) ∧ (g.trust = true ∨ mode ≠ 1#2)

/-- No channel that is not DISABLED is bound to the space, or the channel of the ring base is DISABLED: the condition
under which R10 and R11 let a write to a 64-bit register pass. -/
def Unprotected (u : State) : Reg64 → Prop
  | .invalAddr => True
  | .spaceRoot x => ∀ c, (u.chan c).state ≠ .disabled → (u.chan c).cfg.sid ≠ x
  | .sqBase c | .cqBase c => (u.chan c).state = .disabled

/-- The window offset of a register of channel c's configuration block. -/
def cfgOff (c : ChanNo) (o : Nat) : BitVec 16 := BitVec.ofNat 16 (0x200 + 0x40 * c.val + o)

/-- The window offset of a register of channel window c. -/
def winOff (c : ChanNo) (o : Nat) : BitVec 16 := BitVec.ofNat 16 (0x1000 + 0x1000 * c.val + o)

/-- The window offset of a register of space descriptor x. -/
def spcOff (x : SpaceNo) (o : Nat) : BitVec 16 := BitVec.ofNat 16 (0x100 + 0x10 * x.val + o)

/-- The refused accesses, each with its reason and the offset it logs: those that break R4, the writes to the
configuration block of a channel that is not DISABLED (R10), to the descriptor of a space in use (R11), and a GO write
while an invalidation is busy (R12). -/
def Refused (u : State) (i : Instr) (reason : BitVec 3) (off : BitVec 16) : Prop :=
  (reason = 1#3 ∧ ∃ (w : Bool) (n : Nat), (n ≠ 4 ∨ off.toNat % 4 ≠ 0) ∧ i = .illegalSizeAccess w off n) ∨
  (reason = 2#3 ∧ ∃ (c : ChanNo) (d : BitVec 32), (u.chan c).state ≠ .disabled ∧
    ((off = cfgOff c 0x00 ∧ i = .stageLowHalf (.sqBase c) d) ∨ (off = cfgOff c 0x04 ∧ i = .commitHighHalf (.sqBase c) d) ∨
      (off = cfgOff c 0x0C ∧ i = .stageLowHalf (.cqBase c) d) ∨ (off = cfgOff c 0x10 ∧ i = .commitHighHalf (.cqBase c) d) ∨
      ∃ o ∈ [0x08, 0x14, 0x18, 0x1C, 0x20], off = cfgOff c o ∧ i = .registerWrite off d)) ∨
  (reason = 3#3 ∧ ∃ (c : ChanNo) (d : BitVec 32), (u.chan c).state ≠ .disabled ∧
    (let x := (u.chan c).cfg.sid
     (off = spcOff x 0x0 ∧ i = .registerWrite off d) ∨ (off = spcOff x 0x8 ∧ i = .stageLowHalf (.spaceRoot x) d) ∨
       (off = spcOff x 0xC ∧ i = .commitHighHalf (.spaceRoot x) d))) ∨
  (reason = 4#3 ∧ u.inval.busy = true ∧ off = 0x030#16 ∧ ∃ (scope : BitVec 2) (sid : SpaceNo), i = .invalGo scope sid)

/-- The unassigned offsets among the multiples of 4, by the tables of section 1.1. -/
def Unassigned (off : BitVec 16) : Prop :=
  let n := off.toNat
  n % 4 = 0 ∧
    (n = 0x028 ∨ n = 0x02C ∨ n = 0x04C ∨ (0x054 ≤ n ∧ n < 0x100) ∨
      (0x100 ≤ n ∧ n < 0x200 ∧ n % 0x10 = 0x4) ∨
      (0x200 ≤ n ∧ n < 0x400 ∧ 0x30 ≤ n % 0x40) ∨
      (0x400 ≤ n ∧ n < 0x1000) ∨
      (0x1000 ≤ n ∧ n < 0x9000 ∧ (n % 0x1000 = 0x3C ∨ 0x50 ≤ n % 0x1000)) ∨
      0x9000 ≤ n)

/-- What follows a wake or a cancellation of doze: the transitions held in that step, channel by channel, then the
grant decisions (R27, R183). -/
def releaseOwed (u : State) : List FollowOn :=
  (([0, 1, 2, 3, 4, 5, 6, 7] : List ChanNo).filter fun c =>
    let ch := u.chan c
    let waits := ch.ring.all fun t => !t.live
    (ch.state == .idle && ch.sqHead != ch.sqTail) ||
      (ch.state == .waitingSlot && decide ((ch.cqTail - ch.cqHead).toNat < 2 ^ ch.cfg.cqSize.toNat)) ||
      (ch.state == .fetching && waits) || (ch.state == .completing && waits)).map FollowOn.held ++ [.grants]

/-- A released lane: FREE, or DISABLED when its LANE_ENABLE bit is 0, with nothing left in it (R111, R112). -/
def releasedLane (u : State) (l : LaneNo) : Lane :=
  { state := if u.laneEnable.getLsbD l.val then .free else .disabled }

/-- The grant decision that follows a lane becoming FREE in RUN (R113). -/
def grantOwed (u : State) (l : LaneNo) : List FollowOn :=
  if u.power = .run ∧ u.laneEnable.getLsbD l.val then [.grants] else []

/-- The fault record R148 and R149 prescribe for an entry to FAULTED. -/
def faultRecord (ch : Channel) (f : FaultInfo) : FaultRecord :=
  { cause := f.cause, prior := .none, access := f.access, level := f.level
    count := if ch.fault.count = 255#8 then 255#8 else ch.fault.count + 1#8
    index := ch.sqHead, element := BitVec.ofNat 24 f.element, addr := f.addr, entry := f.entry }

/-- A channel that enters FAULTED (R25, R148, R149). -/
def faultedChannel (ch : Channel) (f : FaultInfo) : Channel :=
  flushed { ch with state := .faulted, abortPending := false, fault := faultRecord ch f } 0x04#7

/-- The bytes of an n-byte item, first byte in bits 7..0: those of v, least significant first, or reversed (R97, R101,
R105). -/
def elementBytes (v n : Nat) (swap : Bool) : BitVec 64 :=
  BitVec.ofNat 64
    ((List.range n).map fun j => v / 256 ^ (if swap then n - 1 - j else j) % 256 * 256 ^ j).sum

/-- The shaped bytes the beat buffer holds for the position a lane takes. -/
def takenBytes (x : Lane) : BitVec 64 := (((x.slots[x.place]?).bind (·.shaped)).map (·.bytes)).getD 0#64

/-- How the list of a lane's outstanding transactions grows from `out` to `final` once the portions of an access are
translated (R117 items 1, 3 and 5): each portion in turn, at its physical address and, for a write, with its bytes,
unless 8 are outstanding or its bytes meet those of one it may not overtake; then nothing is issued. After the last
portion the lane may go on to later steps. -/
def IssuesInOrder (x : Lane) (timeout : BitVec 16) (k : AccessKind) :
    List HeldPortion → List LaneTxn → List LaneTxn → Prop
  | [], out, final => out <+: final
  | h :: rest, out, final =>
    if out.length < 8 ∧ ∀ t ∈ out, k = .dstData ∨ t.kind = .dstData →
        h.pa.toNat + h.portion.len ≤ t.pa.toNat ∨ t.pa.toNat + t.portion.len ≤ h.pa.toNat then
      IssuesInOrder x timeout k rest
        (out ++ [{ pos := x.beatStart + x.place, kind := k, portion := h.portion, pa := h.pa
                   data := if k = .dstData then
                       BitVec.ofNat 64 ((takenBytes x).toNat / 2 ^ (8 * h.portion.off) % 2 ^ (8 * h.portion.len))
                     else 0#64
                   timeout := timeout, age := 0, old := h.old }]) final
    else final = out

/-- A cache entry that answers a request: it covers the SID and EVA and allows the access (R136, R137). -/
def servedBy (e : CacheEntry) (sid : SpaceNo) (a : Eva) (write trust : Bool) : Bool :=
  e.sid == sid &&
    (if e.block then e.page.extractLsb' 9 19 == a.extractLsb' 21 19 else e.page == a.extractLsb' 12 28) &&
    (if write then e.write && e.modKnown else e.read) && (trust || !e.ownerOnly)

/-- The PA of an EVA in a page or block frame (R130). -/
def framePa (frame : Pa) (block : Bool) (a : Eva) : Pa :=
  frame + BitVec.ofNat 44 (a.toNat % (if block then 2 ^ 21 else 4096))

/-- A valid entry that is malformed at a level: check 2 of R129. -/
def MalformedAt (e : BitVec 64) (level : Nat) : Prop :=
  e &&& 0xFFFFF00000000F80#64 ≠ 0#64 ∨ (level = 1 ∧ e.getLsbD 1 = true) ∨ (level = 3 ∧ e.getLsbD 1 = false) ∨
    (level = 2 ∧ e.getLsbD 1 = true ∧ e.extractLsb' 12 9 ≠ 0#9) ∨ (e.getLsbD 1 = false ∧ e.extractLsb' 2 5 ≠ 0#5)

/-- A well-formed leaf: a block at level 2, a page at level 3 (R129). -/
def LeafAt (e : BitVec 64) (level : Nat) : Prop :=
  e &&& 0xFFFFF00000000F83#64 = 3#64 ∧ (level = 3 ∨ (level = 2 ∧ e.extractLsb' 12 9 = 0#9))

/-- A request that passes its checks at a leaf (R131). -/
def Permitted (e : BitVec 64) (r : WalkRequest) : Prop :=
  (r.trust = true ∨ e.getLsbD 4 = false) ∧ (if r.write = true then e.getLsbD 3 = true else e.getLsbD 2 = true)

/-- The flags the leaf lacks for a request that passed its checks: it needs an update (R132). -/
def LacksFlags (e : BitVec 64) (r : WalkRequest) : Prop :=
  e.getLsbD 5 = false ∨ (r.write = true ∧ e.getLsbD 6 = false)

/-- The unit after a walk fault has reached the one request r of the walk in progress, its lane having asked for the
translation of portion p of its position: the walk is over and the lane settles the fault (R122, R126, R148). -/
def walkFaulted (u : State) (r : WalkRequest) (p : Portion) (cause : Cause) (level : Nat) (entry : Pa) : State :=
  let y := u.lane r.lane
  { u.setLane r.lane { y with
      request := false, cursor := .begin
      failure := some { pos := y.pos, portion := if p.off = 0 then 0 else 1
                        fault := some { cause := cause, access := r.kind, level := BitVec.ofNat 2 level
                                        element := elementIndex y.order y.progress.down y.pos
                                        addr := r.eva.setWidth 44, entry := entry } } } with
    walker := none, agenda := .walk :: u.agenda }

/-- The walker at the start of an attempt: the read of the level-1 entry (R128, R135). -/
def attemptStarted (u : State) (k : Walk) : State :=
  { u with
    walker := some { walk := k
                     phase := .reading 1 (((u.space k.sid).root ++ 0#12) + (k.page.extractLsb' 18 10).setWidth 44 * 8#44)
                     timeout := u.busTimeout, age := 0 } }

/-- The zero fields of an order of a kind, each as its lowest bit and its width (R65, without the used walks). -/
def zeroFields (kind : Nat) : List (Nat × Nat) :=
  [(10, 6), (29, 3), (107, 5), (112, 16)] ++
    (if kind = 4 ∨ kind = 5 ∨ kind = 6 then [(16, 16), (96, 16), (32, 32), (128, 128), (256, 128)] else []) ++
    match kind with
    | 1 | 6 => [(384, 128)]
    | 2 => [(16, 4), (24, 4), (96, 8), (104, 3), (128, 128)]
    | 3 => [(256, 128), (416, 96)]
    | 4 => [(400, 112)]
    | 5 => [(392, 24), (480, 32)]
    | _ => []

/-- The mode-dependent zero fields of a used walk whose descriptor starts at bit b (R66). -/
def walkZeroFields (o : BitVec 512) (b : Nat) : List (Nat × Nat) :=
  [(b + 46, 2), (b + 56, 8)] ++
    match (o.extractLsb' (b + 40) 2).toNat with
    | 0 => [(b + 44, 2), (b + 64, 32), (b + 96, 32)]
    | 1 => [(b + 44, 2), (b + 96, 32)]
    | 2 => [(b + 44, 2), (b + 112, 16)]
    | _ => []

/-- The first bits of the walks a kind uses: source at 128, destination at 256 (R61). -/
def usedWalks (kind : Nat) : List Nat :=
  match kind with
  | 1 => [128, 256]
  | 2 => [256]
  | 3 => [128]
  | _ => []

/-- Some field that must be zero holds a 1: check 2 of R64 (R65, R66). -/
def ZeroFieldSet (o : BitVec 512) : Prop :=
  let kind := (o.extractLsb' 0 8).toNat
  ∃ f ∈ zeroFields kind ++ (usedWalks kind).flatMap (walkZeroFields o), o.extractLsb' f.1 f.2 ≠ 0

/-- The auto conditions of R67. -/
def AutoConditions (o : BitVec 512) : Prop :=
  o.extractLsb' 0 8 = 1#8 ∧
    (∀ b ∈ [128, 256], o.extractLsb' (b + 40) 2 = 0#2 ∧ o.extractLsb' (b + 42) 2 = 2#2 ∧ o.extractLsb' (b + 48) 8 = 0#8) ∧
    (o.extractLsb' 16 4).toNat / 2 % 4 = (o.extractLsb' 20 4).toNat / 2 % 4

/-- The walk whose descriptor starts at bit b has a field out of range: the INVALID_FIELD column of R66. -/
def WalkOutOfRange (o : BitVec 512) (b : Nat) : Prop :=
  let mode := o.extractLsb' (b + 40) 2
  let dir := o.extractLsb' (b + 42) 2
  let width := o.extractLsb' (b + 44) 2
  let plane := (o.extractLsb' (b + 96) 32).toNat
  dir = 3#2 ∨ 6 ≤ (o.extractLsb' (b + 48) 8).toNat ∨
    (mode = 0#2 ∧ dir = 2#2 ∧ ¬AutoConditions o) ∨
    (mode = 1#2 ∧ dir ≠ 0#2) ∨
    (mode = 2#2 ∧ (dir ≠ 0#2 ∨ o.extractLsb' (b + 96) 16 = 0#16)) ∨
    (mode = 3#2 ∧ (dir = 2#2 ∨ width = 3#2 ∨ (width = 0#2 ∧ 2 ^ 24 ≤ plane) ∨ (width = 1#2 ∧ 2 ^ 8 ≤ plane) ∨
      (width = 2#2 ∧ plane ≠ 0)))

/-- Some used field is out of range or some combination is not permitted: check 3 of R64 (R66, R67). -/
def FieldOutOfRange (o : BitVec 512) : Prop :=
  let kind := (o.extractLsb' 0 8).toNat
  let scale := (o.extractLsb' 96 8).toInt
  (∃ b ∈ usedWalks kind, WalkOutOfRange o b) ∨
    (kind = 1 ∨ kind = 3) ∧ (8 ≤ (o.extractLsb' 16 4).toNat ∨ scale < -63 ∨ 63 < scale) ∨
    (kind = 1 ∨ kind = 2 ∨ kind = 3) ∧ (8 ≤ (o.extractLsb' 20 4).toNat ∨ 16777215 < (o.extractLsb' 32 32).toNat) ∨
    (kind = 4 ∧ o.extractLsb' 384 16 = 0#16) ∨
    (kind = 5 ∧ 8 ≤ (o.extractLsb' 384 8).toNat)

end Sys2Proof.Certificates

open Sys2Proof.Certificates

/-! ## The queue and the steps -/

/-- A step takes the command at the front of the queue and runs it on the rest. -/
def Obligations.StepRunsTheFrontCommand : Prop :=
  ∀ (s : State) (c : Instr) (rest : List Instr), s.pending = c :: rest → step s = exec c { s with pending := rest }

/-- No command changes the queue of commands that wait; the queue is the model's own (notes/assumptions/1.md). -/
def Obligations.CommandsLeaveTheQueueAlone : Prop :=
  ∀ (i : Instr) (s t : State), exec i s = .next t → t.pending = s.pending

/-- Every command, in every state, is taken. The model's choice (notes/assumptions/14.md, DEDUCED): the manual is read
as giving each command an effect or none, never a stop; an event that is not due, an answer to nothing outstanding and
an ill-formed term are taken as entries 5, 6 and 16 say. -/
def Obligations.EveryCommandAnswersANextState : Prop :=
  ∀ (i : Instr) (s : State), ∃ t, exec i s = .next t

/-! ## Resets (chapter 12) -/

/-- RESET_N low: every item at its reset value, the tick generator stopped, whatever the state was; its release: RUN,
cause POWER_ON, the first tick (R177, R180). The model's queue and the last port response are not the engine's. That a
release of RESET_N while it is high changes nothing is the model's choice (notes/assumptions/19.md, DEDUCED). -/
def Obligations.PowerOnResetAndItsRelease : Prop :=
  (∀ s : State, ∃ p, exec .powerOnReset s =
    .next { State.reset with pending := s.pending, port := p, resetN := false, tick := none }) ∧
  ∀ s u : State, s.settled = u →
    (u.resetN = false → exec .resetNRelease s =
      .next { u with resetN := true, power := .run, resetCause := .powerOn, tick := some u.tickDiv }) ∧
    (u.resetN = true → exec .resetNRelease s = .next u)

/-- The reset values of section 12.2. -/
def Obligations.ResetValuesAreThoseOfTheTable : Prop :=
  let r := State.reset
  (r.power = .run ∧ r.resetCause = .powerOn ∧ r.dozeReq = false ∧ r.autoWake = false ∧ r.tickDiv = 99#16 ∧
    r.tickCount = 0#32 ∧ r.busTimeout = 1000#16 ∧ r.laneEnable = 0xF#4 ∧ r.agingLimit = 8#8 ∧ r.roundRobin = 7 ∧
    r.staging = 0#32 ∧ r.glbPending = 0#4 ∧ r.glbMask = 0#4 ∧ r.glbRoute = 0#2 ∧ r.cache = [] ∧ r.walkQueue = [] ∧
    r.walker = none) ∧
  (r.refusalLog.valid = false ∧ r.refusalLog.reason = 0#3 ∧ r.refusalLog.offset = 0#16 ∧ r.refusalLog.count = 0#8) ∧
  (r.inval.scope = 0#2 ∧ r.inval.sid = 0 ∧ r.inval.addr = 0#40 ∧ r.inval.busy = false ∧ r.inval.requestsDone = 0#8) ∧
  (r.resetN = true ∧ r.tick = some 99#16 ∧ ∀ n, r.irq n = false) ∧
  (∀ l : LaneNo, (r.lane l).state = .free ∧ (r.lane l).owner = none ∧ (r.lane l).slots = [] ∧ (r.lane l).txns = [] ∧
    (r.lane l).abort = false) ∧
  (∀ x : SpaceNo, (r.space x).mode = 0#2 ∧ (r.space x).flagUpdate = false ∧ (r.space x).root = 0#32) ∧
  (∀ c : ChanNo, let ch := r.chan c
    (ch.state = .disabled ∧ ch.pausePending = false ∧ ch.abortPending = false ∧ ch.sqHead = 0#16 ∧ ch.sqTail = 0#16 ∧
      ch.cqHead = 0#16 ∧ ch.cqTail = 0#16 ∧ ch.lap = false ∧ ch.progress.count = 0 ∧ ch.flushed = 0#16 ∧
      ch.mark = 0#32 ∧ ch.evtPending = 0#7 ∧ ch.evtMask = 0#7 ∧ ch.coalesceCount = 0#8 ∧ ch.coalesceTimer = none ∧
      ch.passOver = 0#8 ∧ ch.cmdResult = .done) ∧
    (ch.order = none ∧ ch.wait = none ∧ ch.ring = [] ∧ ch.afterFault = false ∧
      ch.progress.flags = { inexact := false, saturated := false, wrapped := false } ∧ ch.progress.digestA = 0 ∧
      ch.progress.digestB = 0 ∧ ch.progress.down = false) ∧
    (ch.fault.cause = .none ∧ ch.fault.prior = .none ∧ ch.fault.access = .none ∧ ch.fault.level = 0#2 ∧
      ch.fault.count = 0#8 ∧ ch.fault.index = 0#16 ∧ ch.fault.element = 0#24 ∧ ch.fault.addr = 0#44 ∧
      ch.fault.entry = 0#44) ∧
    (ch.cfg.sqBase = 0#44 ∧ ch.cfg.sqSize = 0#4 ∧ ch.cfg.cqBase = 0#44 ∧ ch.cfg.cqSize = 0#4 ∧ ch.cfg.sid = 0 ∧
      ch.cfg.trust = false ∧ ch.cfg.priority = 0#2 ∧ ch.cfg.stopOnError = false ∧ ch.cfg.eventAll = false ∧
      ch.cfg.waitMask = 0#8 ∧ ch.cfg.evtRoute = 0#2 ∧ ch.cfg.threshold = 1#8 ∧ ch.cfg.timer = 0#16))

/-- A soft reset starts: RESETTING, the doze bits 0, the tick stopped, every busy lane drains with its transactions,
every line low; no channel and no other lane changes (R176, R178). It ends when no lane is busy, the walker has
nothing outstanding and no ring transaction is in flight: every item takes its reset value, the cause is SOFT (R179,
R180). -/
def Obligations.SoftResetDrainsAndThenResets : Prop :=
  (∀ (s u : State) (d a : Bool), s.settled = u → u.operating = true →
    ∃ t, exec (.softReset d a) s = .next t ∧
      t = { u with
            power := .resetting, dozeReq := false, autoWake := false, tick := none, port := some .ok
            lanes := t.lanes, walker := t.walker, walkQueue := t.walkQueue } ∧
      (∀ l, (u.lane l).state.busy = true →
        (t.lane l).state = .draining ∧ (t.lane l).owner = (u.lane l).owner ∧ (t.lane l).txns = (u.lane l).txns) ∧
      (∀ l, (u.lane l).state.busy = false → t.lane l = u.lane l) ∧
      ∀ n, t.irq n = false) ∧
  ∀ s : State, s.resetN = true → s.power = .resetting → (∀ l, (s.lane l).state.busy = false) → s.walker = none →
    (∀ c, (s.chan c).ring = []) →
    exec .softResetEnd s = .next { State.reset with pending := s.pending, port := s.port, resetCause := .soft }

/-- In reset every aligned 32-bit access is answered OK and changes nothing; one that breaks R4 is answered with an
error in RESETTING, with OK while RESET_N is low, and neither is logged; a read returns 0, but for ENG_STATUS in
RESETTING, which shows POWER_STATE 3 (R16). -/
def Obligations.AccessesInResetChangeNothing : Prop :=
  ∀ (s u : State), s.settled = u → u.operating = false →
    (∀ i : Instr, isAccess i = true → exec i s = .next { u with port := some .ok }) ∧
    (∀ (w : Bool) (off : BitVec 16) (n : Nat), n ≠ 4 ∨ off.toNat % 4 ≠ 0 →
      exec (.illegalSizeAccess w off n) s =
        .next { u with port := some (if u.resetN then .error else .ok) }) ∧
    (∀ off : BitVec 16, off ≠ 0x008#16 ∨ u.resetN = false → s.read off = 0#32) ∧
    (u.resetN = true → (s.read 0x008).extractLsb' 0 2 = 3#2)

/-! ## The Register Interface (chapter 1) -/

/-- An access of the wrong size or alignment: error response, log, ACCESS_REFUSED, nothing else (R4, R13, R14). -/
def Obligations.IllegalSizeAccessIsLoggedAndChangesNothingElse : Prop :=
  ∀ (s u : State) (w : Bool) (off : BitVec 16) (n : Nat), s.settled = u → u.operating = true →
    n ≠ 4 ∨ off.toNat % 4 ≠ 0 →
    exec (.illegalSizeAccess w off n) s = .next (refusedAccess u 1#3 off .error)

/-- Protected registers refuse writes: CHCFG[c] of a channel that is not DISABLED, the descriptor of a space that such
a channel is bound to (R10, R11, R13). -/
def Obligations.ProtectedRegistersRefuseWrites : Prop :=
  ∀ (s u : State) (data : BitVec 32), s.settled = u → u.operating = true →
    (∀ c, (u.chan c).state ≠ .disabled →
      exec (.stageLowHalf (.sqBase c) data) s = .next (refusedAccess u 2#3 (cfgOff c 0x00) .ok) ∧
      exec (.commitHighHalf (.sqBase c) data) s = .next (refusedAccess u 2#3 (cfgOff c 0x04) .ok) ∧
      exec (.stageLowHalf (.cqBase c) data) s = .next (refusedAccess u 2#3 (cfgOff c 0x0C) .ok) ∧
      exec (.commitHighHalf (.cqBase c) data) s = .next (refusedAccess u 2#3 (cfgOff c 0x10) .ok) ∧
      ∀ o ∈ [0x08, 0x14, 0x18, 0x1C, 0x20],
        exec (.registerWrite (cfgOff c o) data) s = .next (refusedAccess u 2#3 (cfgOff c o) .ok)) ∧
    (∀ (x : SpaceNo) (c : ChanNo), (u.chan c).state ≠ .disabled → (u.chan c).cfg.sid = x →
      exec (.registerWrite (spcOff x 0x0) data) s = .next (refusedAccess u 3#3 (spcOff x 0x0) .ok) ∧
      exec (.stageLowHalf (.spaceRoot x) data) s = .next (refusedAccess u 3#3 (spcOff x 0x8) .ok) ∧
      exec (.commitHighHalf (.spaceRoot x) data) s = .next (refusedAccess u 3#3 (spcOff x 0xC) .ok))

/-- A low half is staged; a high half commits the register from the written data and the staging half, reserved bits
discarded, the staging half kept; both halves then read back (R5, R8, R9). -/
def Obligations.HighHalfCommitsWithTheStagedLowHalf : Prop :=
  ∀ (s u : State) (r : Reg64) (data : BitVec 32), s.settled = u → u.operating = true → Unprotected u r →
    exec (.stageLowHalf r data) s = .next { u with staging := data, port := some .ok } ∧
    (let v : BitVec 64 := data ++ u.staging
     let t : State := match r with
      | .invalAddr => { u with inval := { u.inval with addr := v.extractLsb' 0 40 } }
      | .spaceRoot x => u.setSpace x { u.space x with root := v.extractLsb' 12 32 }
      | .sqBase c => u.modChan c fun ch => { ch with cfg := { ch.cfg with sqBase := v.extractLsb' 0 44 } }
      | .cqBase c => u.modChan c fun ch => { ch with cfg := { ch.cfg with cqBase := v.extractLsb' 0 44 } }
     exec (.commitHighHalf r data) s = .next { t with port := some .ok } ∧
     match r with
      | .invalAddr => t.readNow 0x038 = u.staging ∧ t.readNow 0x03C = data &&& 0xFF#32
      | .spaceRoot x =>
        t.readNow (spcOff x 0x8) = u.staging &&& 0xFFFFF000#32 ∧ t.readNow (spcOff x 0xC) = data &&& 0xFFF#32
      | .sqBase c => t.readNow (cfgOff c 0x00) = u.staging ∧ t.readNow (cfgOff c 0x04) = data &&& 0xFFF#32
      | .cqBase c => t.readNow (cfgOff c 0x0C) = u.staging ∧ t.readNow (cfgOff c 0x10) = data &&& 0xFFF#32)

/-- A write of a register without a row of its own that passes every check stores each field as written, and nothing
else changes; one to an unassigned offset, which reads as 0, or to a read-only register is answered OK and discarded
(R3, R5, R6, R7, R12). Every register reads as its fields, reserved and write-only bits as 0 (R5, R6, R17); CH_STATE,
CH_CMD_RESULT and FAULT_CAUSE by their codes (R19, R28, R147), LANE_VALID and LANE by the busy lane the channel owns
(R19, R110); PROGRESS by the lane's count for a RUNNING channel whose lane has taken over, and else by the channel's,
which in CLEARING is the model's choice (R18, R120; notes/assumptions/30.md). -/
def Obligations.RegisterWritesStoreTheirFields : Prop :=
  ∀ (s u : State) (data : BitVec 32), s.settled = u → u.operating = true →
    let ok (t : State) : Host.Outcome State Fault Refusal := .next { t with port := some .ok }
    exec (.registerWrite 0x010 data) s = ok { u with tickDiv := data.extractLsb' 0 16 } ∧
    exec (.registerWrite 0x018 data) s = ok { u with busTimeout := data.extractLsb' 0 16 } ∧
    exec (.registerWrite 0x024 data) s = ok { u with agingLimit := data.extractLsb' 0 8 } ∧
    exec (.registerWrite 0x044 data) s = ok { u with glbMask := data.extractLsb' 0 4 } ∧
    exec (.registerWrite 0x048 data) s = ok { u with glbRoute := data.extractLsb' 0 2 } ∧
    (data.getLsbD 31 = false → exec (.registerWrite 0x030 data) s =
      ok { u with inval := { u.inval with scope := data.extractLsb' 0 2, sid := ⟨(data.extractLsb' 4 4).toNat, (data.extractLsb' 4 4).isLt⟩ } }) ∧
    (∀ x : SpaceNo, (∀ c, (u.chan c).state ≠ .disabled → (u.chan c).cfg.sid ≠ x) →
      exec (.registerWrite (spcOff x 0x0) data) s =
        ok (u.setSpace x { u.space x with mode := data.extractLsb' 0 2, flagUpdate := data.getLsbD 4 })) ∧
    (∀ c : ChanNo,
      exec (.registerWrite (cfgOff c 0x24) data) s = ok (u.modChan c fun ch =>
        { ch with cfg := { ch.cfg with threshold := data.extractLsb' 0 8, timer := data.extractLsb' 16 16 } }) ∧
      exec (.registerWrite (winOff c 0x24) data) s =
        ok (u.modChan c fun ch => { ch with evtMask := data.extractLsb' 0 7 }) ∧
      ((u.chan c).state = .disabled →
        exec (.registerWrite (cfgOff c 0x08) data) s =
          ok (u.modChan c fun ch => { ch with cfg := { ch.cfg with sqSize := data.extractLsb' 0 4 } }) ∧
        exec (.registerWrite (cfgOff c 0x14) data) s =
          ok (u.modChan c fun ch => { ch with cfg := { ch.cfg with cqSize := data.extractLsb' 0 4 } }) ∧
        exec (.registerWrite (cfgOff c 0x18) data) s = ok (u.modChan c fun ch =>
          { ch with cfg := { ch.cfg with
            sid := ⟨(data.extractLsb' 0 4).toNat, (data.extractLsb' 0 4).isLt⟩, trust := data.getLsbD 4
            priority := data.extractLsb' 8 2, stopOnError := data.getLsbD 12, eventAll := data.getLsbD 13 } }) ∧
        exec (.registerWrite (cfgOff c 0x1C) data) s =
          ok (u.modChan c fun ch => { ch with cfg := { ch.cfg with waitMask := data.extractLsb' 0 8 } }) ∧
        exec (.registerWrite (cfgOff c 0x20) data) s =
          ok (u.modChan c fun ch => { ch with cfg := { ch.cfg with evtRoute := data.extractLsb' 0 2 } }))) ∧
    (∀ off : BitVec 16, Unassigned off →
      exec (.registerWrite off data) s = .next { u with port := some .ok } ∧ u.readNow off = 0#32) ∧
    (∀ off ∈ [0x000#16, 0x008#16, 0x00C#16, 0x014#16, 0x020#16, 0x034#16],
      exec (.registerWrite off data) s = .next { u with port := some .ok }) ∧
    (∀ c : ChanNo, ∀ o ∈ [0x04, 0x0C, 0x10, 0x18, 0x1C, 0x28, 0x2C, 0x30, 0x34, 0x38, 0x40, 0x44, 0x48, 0x4C],
      exec (.registerWrite (winOff c o) data) s = .next { u with port := some .ok }) ∧
    (let busy (l : LaneNo) : Bool := (u.lane l).state != .free && (u.lane l).state != .disabled
     let status (l : LaneNo) : BitVec 4 :=
       if busy l then BitVec.ofNat 3 (((u.lane l).owner.map (·.val)).getD 0) ++ 1#1 else 0#4
     s.read 0x000 = 0x04800100#32 ∧
     s.read 0x004 = 0#29 ++ bit u.autoWake ++ bit u.dozeReq ++ 0#1 ∧
     s.read 0x008 = 0#22 ++ bit u.inval.busy ++ bit u.walker.isSome ++ 0#1 ++
       BitVec.ofNat 3 ((([0, 1, 2, 3] : List LaneNo).filter busy).length) ++ 0#2 ++ u.power.code ∧
     s.read 0x00C = 0#30 ++ u.resetCause.code ∧
     s.read 0x010 = 0#16 ++ u.tickDiv ∧ s.read 0x014 = u.tickCount ∧ s.read 0x018 = 0#16 ++ u.busTimeout ∧
     s.read 0x01C = 0#28 ++ u.laneEnable ∧
     s.read 0x020 = 0#16 ++ status 3 ++ status 2 ++ status 1 ++ status 0 ∧
     s.read 0x024 = 0#24 ++ u.agingLimit ∧
     s.read 0x030 = 0#24 ++ BitVec.ofNat 4 u.inval.sid.val ++ 0#2 ++ u.inval.scope ∧
     s.read 0x034 = 0#16 ++ u.inval.requestsDone ++ 0#7 ++ bit u.inval.busy ∧
     s.read 0x038 = u.inval.addr.extractLsb' 0 32 ∧ s.read 0x03C = 0#24 ++ u.inval.addr.extractLsb' 32 8 ∧
     s.read 0x040 = 0#28 ++ u.glbPending ∧ s.read 0x044 = 0#28 ++ u.glbMask ∧
     s.read 0x048 = 0#30 ++ u.glbRoute ∧
     s.read 0x050 =
       u.refusalLog.count ++ u.refusalLog.offset ++ 0#4 ++ u.refusalLog.reason ++ bit u.refusalLog.valid) ∧
    (∀ x : SpaceNo,
      s.read (spcOff x 0x0) = 0#27 ++ bit (u.space x).flagUpdate ++ 0#2 ++ (u.space x).mode ∧
      s.read (spcOff x 0x8) = (u.space x).root.extractLsb' 0 20 ++ 0#12 ∧
      s.read (spcOff x 0xC) = 0#20 ++ (u.space x).root.extractLsb' 20 12) ∧
    (∀ c : ChanNo, let g := (u.chan c).cfg
      s.read (cfgOff c 0x00) = g.sqBase.extractLsb' 0 32 ∧
      s.read (cfgOff c 0x04) = 0#20 ++ g.sqBase.extractLsb' 32 12 ∧
      s.read (cfgOff c 0x08) = 0#28 ++ g.sqSize ∧
      s.read (cfgOff c 0x0C) = g.cqBase.extractLsb' 0 32 ∧
      s.read (cfgOff c 0x10) = 0#20 ++ g.cqBase.extractLsb' 32 12 ∧
      s.read (cfgOff c 0x14) = 0#28 ++ g.cqSize ∧
      s.read (cfgOff c 0x18) = 0#18 ++ bit g.eventAll ++ bit g.stopOnError ++ 0#2 ++ g.priority ++ 0#3 ++ bit g.trust ++
        BitVec.ofNat 4 g.sid.val ∧
      s.read (cfgOff c 0x1C) = 0#24 ++ g.waitMask ∧ s.read (cfgOff c 0x20) = 0#30 ++ g.evtRoute ∧
      s.read (cfgOff c 0x24) = g.timer ++ 0#8 ++ g.threshold ∧
      s.read (cfgOff c 0x28) = 0#32 ∧ s.read (cfgOff c 0x2C) = 0#32) ∧
    (∀ c : ChanNo, let ch := u.chan c
      let holds (l : LaneNo) : Prop :=
        (u.lane l).owner = some c ∧ (u.lane l).state ≠ .free ∧ (u.lane l).state ≠ .disabled
      let state (valid : BitVec 1) (lane : BitVec 2) : BitVec 32 :=
        0#19 ++ bit ch.lap ++ 0#1 ++ lane ++ valid ++ 0#2 ++ bit ch.abortPending ++ bit ch.pausePending ++ ch.state.code
      s.read (winOff c 0x00) = 0#16 ++ ch.sqTail ∧ s.read (winOff c 0x04) = 0#16 ++ ch.sqHead ∧
      s.read (winOff c 0x08) = 0#16 ++ ch.cqHead ∧ s.read (winOff c 0x0C) = 0#16 ++ ch.cqTail ∧
      ((∀ l, ¬holds l) → s.read (winOff c 0x10) = state 0#1 0#2 ∧
        s.read (winOff c 0x28) = 0#8 ++ BitVec.ofNat 24 ch.progress.count) ∧
      (∀ l, holds l → (∀ m, holds m → m = l) → s.read (winOff c 0x10) = state 1#1 (BitVec.ofNat 2 l.val) ∧
        s.read (winOff c 0x28) = 0#8 ++ BitVec.ofNat 24
          (if ch.state = .running ∧ (u.lane l).state ≠ .loading then (u.lane l).progress.count else ch.progress.count)) ∧
      s.read (winOff c 0x14) = 0#32 ∧ s.read (winOff c 0x18) = 0#24 ++ ch.cmdResult.code ∧
      s.read (winOff c 0x1C) = ch.mark ∧
      s.read (winOff c 0x20) = 0#25 ++ ch.evtPending ∧ s.read (winOff c 0x24) = 0#25 ++ ch.evtMask ∧
      s.read (winOff c 0x2C) = 0#16 ++ ch.flushed ∧
      s.read (winOff c 0x30) = ch.fault.count ++ 0#10 ++ ch.fault.level ++ 0#1 ++ ch.fault.access.code ++
        ch.fault.prior.code ++ ch.fault.cause.code ∧
      s.read (winOff c 0x34) = 0#16 ++ ch.fault.index ∧ s.read (winOff c 0x38) = 0#8 ++ ch.fault.element ∧
      s.read (winOff c 0x40) = ch.fault.addr.extractLsb' 0 32 ∧
      s.read (winOff c 0x44) = 0#20 ++ ch.fault.addr.extractLsb' 32 12 ∧
      s.read (winOff c 0x48) = ch.fault.entry.extractLsb' 0 32 ∧
      s.read (winOff c 0x4C) = 0#20 ++ ch.fault.entry.extractLsb' 32 12) ∧
    ([ChState.disabled, .idle, .waitingSlot, .fetching, .queued, .running, .syncWait, .completing, .stopped, .faulted,
        .wedged, .clearing].map (·.code.toNat) = List.range 12 ∧
      [CmdResult.done, .wrongState, .busy, .configInvalid, .unknownCommand].map (·.code.toNat) = [0, 1, 2, 3, 4] ∧
      [PowerState.run, .dozeEntry, .doze, .resetting].map (·.code.toNat) = [0, 1, 2, 3] ∧
      [ResetCause.powerOn, .soft].map (·.code.toNat) = [1, 2] ∧
      [Cause.none, .notMapped, .readDenied, .writeDenied, .ownerOnly, .entryMalformed, .flagClear, .walkContention,
        .addressRange, .busErrorData, .busErrorWalk, .busTimeout, .ringReadError, .completionWriteError].map
          (·.code.toNat) = List.range 14 ∧
      [AccessKind.none, .srcPointer, .srcData, .dstPointer, .dstData, .ring, .completion].map (·.code.toNat) =
        List.range 7)

/-- R15 whole: VALID written as 1 clears the log and nothing else, ACCESS_REFUSED included; written as 0 nothing
changes; bits 31..1 are ignored; the next refusal, whatever its reason, and one of REFUSAL_LOG itself among them, opens
a new log with COUNT 1. -/
def Obligations.WritingValidClearsTheRefusalLog : Prop :=
  ∀ (s u : State) (data : BitVec 32), s.settled = u → u.operating = true →
    (data.getLsbD 0 = true → exec (.refusalLogClear data) s =
      .next { u with refusalLog := { valid := false, reason := 0#3, offset := 0#16, count := 0#8 }, port := some .ok }) ∧
    (data.getLsbD 0 = false → exec (.refusalLogClear data) s = .next { u with port := some .ok }) ∧
    (∀ (t : State) (i : Instr) (reason : BitVec 3) (off : BitVec 16), data.getLsbD 0 = true →
      exec (.refusalLogClear data) s = .next t → Refused t.settled i reason off →
      ∃ v, exec i t = .next v ∧ v.refusalLog = { valid := true, reason := reason, offset := off, count := 1#8 })

/-- A W1C write clears the pending bits written as 1 and no other; no mask, counter or timer changes (R172). A line is
high exactly while some set routed to it has a bit both pending and enabled, and low in reset (R176). -/
def Obligations.PendingBitsWrittenOneAreCleared : Prop :=
  ∀ (s u : State) (data : BitVec 32), s.settled = u → u.operating = true →
    (∀ c : ChanNo, ∃ t, exec (.eventPendingClear (.channel c) data) s = .next t ∧
      t = { u.setChan c { u.chan c with evtPending := (t.chan c).evtPending } with port := some .ok } ∧
      ∀ b < 7, (t.chan c).evtPending.getLsbD b = ((u.chan c).evtPending.getLsbD b && !data.getLsbD b)) ∧
    (∃ t, exec (.eventPendingClear .global data) s = .next t ∧
      t = { u with glbPending := t.glbPending, port := some .ok } ∧
      ∀ b < 4, t.glbPending.getLsbD b = (u.glbPending.getLsbD b && !data.getLsbD b)) ∧
    ∀ (v : State) (n : BitVec 2), v.irq n = true ↔
      (v.resetN = true ∧ v.power ≠ .resetting) ∧
        ((∃ c : ChanNo, (v.chan c).cfg.evtRoute = n ∧
            ∃ b < 7, (v.chan c).evtPending.getLsbD b = true ∧ (v.chan c).evtMask.getLsbD b = true) ∨
          (v.glbRoute = n ∧ ∃ b < 4, v.glbPending.getLsbD b = true ∧ v.glbMask.getLsbD b = true))

/-- A write to LANE_ENABLE: a FREE lane written 0 is DISABLED, a DISABLED lane written 1 is FREE, no busy lane changes;
in RUN a grant decision follows a lane becoming FREE (R112, R113). -/
def Obligations.LaneEnableActsByLaneState : Prop :=
  ∀ (s u : State) (data : BitVec 32), s.settled = u → u.operating = true →
    ∃ t, exec (.laneEnable data) s = .next t ∧
      t = { u with
            laneEnable := data.extractLsb' 0 4, lanes := t.lanes, port := some .ok
            agenda := if u.power = .run ∧ ∃ l : LaneNo, (u.lane l).state = .disabled ∧ data.getLsbD l.val = true
                      then [.grants] else [] } ∧
      ∀ l : LaneNo, t.lane l = { u.lane l with
        state := if (u.lane l).state = .free ∧ data.getLsbD l.val = false then .disabled
                 else if (u.lane l).state = .disabled ∧ data.getLsbD l.val = true then .free
                 else (u.lane l).state }

/-- A GO write: INVAL_BUSY if one is busy; else SCOPE and SID are stored, BUSY is set, the matching cache entries go,
the walk in progress is marked stale if it matches, and every translation the lanes hold counts as old (R12, R141 to
R143). -/
def Obligations.InvalidationStartsByScope : Prop :=
  ∀ (s u : State) (scope : BitVec 2) (sid : SpaceNo), s.settled = u → u.operating = true →
    (u.inval.busy = true → exec (.invalGo scope sid) s = .next (refusedAccess u 4#3 0x030#16 .ok)) ∧
    (u.inval.busy = false →
      let hits (e : CacheEntry) : Bool :=
        if scope = 1#2 then e.sid == sid else if scope = 2#2 then e.covers sid u.inval.addr else true
      let reads (w : Walk) : Bool :=
        if scope = 1#2 then w.sid == sid
        else if scope = 2#2 then
          w.sid == sid && w.page.extractLsb' 9 19 == u.inval.addr.extractLsb' 21 19
        else true
      ∃ t, exec (.invalGo scope sid) s = .next t ∧
        t = { u with
              inval := { u.inval with scope := scope, sid := sid, busy := true }
              cache := u.cache.filter fun e => !hits e
              walker := u.walker.map fun w => { w with walk := { w.walk with stale := w.walk.stale || reads w.walk } }
              lanes := t.lanes, port := some .ok } ∧
        ∀ l, (t.lane l).txns = (u.lane l).txns.map (fun x => { x with old := true }) ∧
          t.lane l = { u.lane l with txns := (t.lane l).txns, cursor := (u.lane l).cursor.markOld })

/-- ENG_CTL with SOFT_RESET 0, by the table of R181; the wake of R183 raises WAKE, the cancellation raises nothing,
and both are followed by the held transitions and the grants. -/
def Obligations.DozeRequestsActByPowerState : Prop :=
  ∀ (s u : State) (a : Bool), s.settled = u → u.operating = true →
    (u.power = .run → exec (.dozeReqSet a) s =
      .next { u with power := .dozeEntry, dozeReq := true, autoWake := a, port := some .ok }) ∧
    (u.power ≠ .run → exec (.dozeReqSet a) s = .next { u with dozeReq := true, autoWake := a, port := some .ok }) ∧
    (u.power = .run → exec (.dozeReqClear a) s = .next { u with dozeReq := false, autoWake := a, port := some .ok }) ∧
    (u.power = .dozeEntry → exec (.dozeReqClear a) s =
      .next { u with power := .run, dozeReq := false, autoWake := a, agenda := releaseOwed u, port := some .ok }) ∧
    (u.power = .doze → exec (.dozeReqClear a) s =
      .next { u with
              power := .run, dozeReq := false, autoWake := a, glbPending := u.glbPending ||| 0x8#4
              agenda := releaseOwed u, port := some .ok })

/-! ## The rings' index writes and MARK_SET (chapters 3 and 10) -/

/-- A doorbell is accepted by R42 and R43 and stores SQ_TAIL, waking a dozing engine with AUTO_WAKE (R183); a refused
one raises DOORBELL_REFUSED and changes nothing else (R44). A CQ_HEAD write frees slots up to CQ_TAIL and no further;
any other raises CQ_HEAD_REFUSED and changes nothing else (R46). -/
def Obligations.IndexWritesStoreOrAreRefused : Prop :=
  (∀ (s u : State) (c : ChanNo) (data : BitVec 32), s.settled = u → u.operating = true →
    let v := data.extractLsb' 0 16
    let ch := u.chan c
    let accepted := ch.state ≠ .disabled ∧ ch.state ≠ .clearing ∧ (v - ch.sqHead).toNat ≤ 2 ^ ch.cfg.sqSize.toNat ∧
      (ch.sqTail - ch.sqHead).toNat ≤ (v - ch.sqHead).toNat
    let stored := u.setChan c { ch with sqTail := v }
    (accepted ∧ ¬(u.power = .doze ∧ u.autoWake = true) →
      exec (.doorbell c data) s = .next { stored with port := some .ok }) ∧
    (accepted ∧ u.power = .doze ∧ u.autoWake = true →
      exec (.doorbell c data) s =
        .next { stored with
                power := .run, dozeReq := false, glbPending := u.glbPending ||| 0x8#4
                agenda := releaseOwed stored, port := some .ok }) ∧
    (¬accepted → exec (.doorbell c data) s =
      .next { u.setChan c { ch with evtPending := ch.evtPending ||| 0x20#7 } with port := some .ok })) ∧
  (∀ (s u : State) (c : ChanNo) (data : BitVec 32), s.settled = u → u.operating = true →
    let v := data.extractLsb' 0 16
    let ch := u.chan c
    let accepted := ch.state ≠ .disabled ∧ ch.state ≠ .clearing ∧
      (v - ch.cqHead).toNat ≤ (ch.cqTail - ch.cqHead).toNat
    (accepted → exec (.cqHeadWrite c data) s = .next { u.setChan c { ch with cqHead := v } with port := some .ok }) ∧
    (¬accepted → exec (.cqHeadWrite c data) s =
      .next { u.setChan c { ch with evtPending := ch.evtPending ||| 0x40#7 } with port := some .ok }))

/-- MARK_SET sets the counter in every channel and power state but reset, changes nothing else of the channel, and the
waits on the counter are looked at next, which the model's agenda says (notes/assumptions/3.md); the end of a channel
reset sets the counter to 0 (R161). -/
def Obligations.MarkSetWritesTheCounter : Prop :=
  ∀ (s u : State) (c : ChanNo) (data : BitVec 32), s.settled = u →
    (u.operating = true → exec (.markSet c data) s =
      .next { u.setChan c { u.chan c with mark := data } with agenda := [.waits c], port := some .ok }) ∧
    (u.operating = false → exec (.markSet c data) s = .next { u with port := some .ok }) ∧
    (s.nextDue = some (.channelResetEnd c) → ∃ t, exec (.channelResetEnd c) s = .next t ∧ (t.chan c).mark = 0#32)

/-! ## Channel commands (chapter 2) -/

/-- PAUSE by channel state; CONTINUE takes STOPPED to IDLE and withdraws a pending pause; DISABLE takes IDLE and STOPPED
to DISABLED and keeps the context (R31 to R33). That it does so in IDLE in RUN with an order pending is the model's
choice (notes/assumptions/33.md, DESIGN CHOICE). -/
def Obligations.PauseContinueAndDisableActByChannelState : Prop :=
  ∀ (s u : State) (c : ChanNo) (p : CmdPort), s.settled = u → u.operating = true →
    let ch := u.chan c
    (ch.state = .idle ∨ ch.state = .waitingSlot ∨ ch.state = .fetching ∨ ch.state = .syncWait →
      exec (.cmdPause c p) s =
        .next { u.setChan c { stoppedChannel ch with cmdResult := .done } with port := some .ok }) ∧
    (ch.state = .queued ∨ ch.state = .running ∨ ch.state = .completing ∨ ch.state = .faulted →
      exec (.cmdPause c p) s =
        .next { u.setChan c { ch with pausePending := true, cmdResult := .done } with port := some .ok }) ∧
    (ch.state = .stopped → exec (.cmdPause c p) s =
      .next { u.setChan c { ch with cmdResult := .done } with port := some .ok }) ∧
    (ch.state = .stopped → exec (.cmdContinue c p) s =
      .next { u.setChan c { ch with state := .idle, cmdResult := .done } with port := some .ok }) ∧
    (Safety.pauseAllowed ch.state = true → ch.pausePending = true → exec (.cmdContinue c p) s =
      .next { u.setChan c { ch with pausePending := false, cmdResult := .done } with port := some .ok }) ∧
    (ch.state = .idle ∨ ch.state = .stopped → exec (.cmdDisable c) s =
      .next { u.setChan c { ch with state := .disabled, cmdResult := .done } with port := some .ok })

/-- RESUME requeues a data-faulted channel with progress and record kept; a ring-faulted one fetches again, or stops
if a pause is pending; FAIL ends a data-faulted order with status FAULT_UNRESOLVED, and its record follows the fault
(R34, R153 to R155, R158). -/
def Obligations.ResumeAndFailLeaveFaulted : Prop :=
  ∀ (s u : State) (c : ChanNo) (p : CmdPort), s.settled = u → u.operating = true → (u.chan c).state = .faulted →
    let ch := u.chan c
    (ch.fault.access ≠ .ring → exec (.cmdResume c p) s =
      .next { u.setChan c { ch with state := .queued, cmdResult := .done } with
              agenda := if u.power = .run then [.grants] else [], port := some .ok }) ∧
    (ch.fault.access = .ring → ch.pausePending = false → exec (.cmdResume c p) s =
      .next { u.setChan c { ch with
                state := .fetching, order := none, progress := {}, afterFault := false, cmdResult := .done } with
              agenda := if u.power = .run then [.issue c] else [], port := some .ok }) ∧
    (ch.fault.access = .ring → ch.pausePending = true → exec (.cmdResume c p) s =
      .next { u.setChan c { stoppedChannel ch with cmdResult := .done } with port := some .ok }) ∧
    (ch.fault.access ≠ .ring → exec (.cmdFail c p) s =
      .next { u.setChan c { completingChannel ch .faultUnresolved 0#32 with afterFault := true, cmdResult := .done } with
              agenda := recordOwed u c, port := some .ok })

/-- ABORT by channel state: IDLE, WAITING_SLOT, FETCHING and a ring fault stop; QUEUED, SYNC_WAIT and a data fault
complete ABORTED, a WAIT with the counter as its RESULT, a data fault's record following the fault; COMPLETING notes
the abort; STOPPED answers DONE; RUNNING drains the lane it holds (R35, R124, R156, R158). -/
def Obligations.AbortActsByChannelState : Prop :=
  ∀ (s u : State) (c : ChanNo) (p : CmdPort), s.settled = u → u.operating = true →
    let ch := u.chan c
    (ch.state = .idle ∨ ch.state = .waitingSlot ∨ ch.state = .fetching ∨
        (ch.state = .faulted ∧ ch.fault.access = .ring) →
      exec (.cmdAbort c p) s =
        .next { u.setChan c { stoppedChannel ch with cmdResult := .done } with port := some .ok }) ∧
    (ch.state = .queued → exec (.cmdAbort c p) s =
      .next { u.setChan c { completingChannel ch .aborted 0#32 with abortPending := true, cmdResult := .done } with
              agenda := recordOwed u c, port := some .ok }) ∧
    (∀ w, ch.state = .syncWait → ch.wait = some w → exec (.cmdAbort c p) s =
      .next { u.setChan c { completingChannel ch .aborted (u.chan w.target).mark with
                abortPending := true, cmdResult := .done } with
              agenda := recordOwed u c, port := some .ok }) ∧
    (ch.state = .faulted → ch.fault.access ≠ .ring → exec (.cmdAbort c p) s =
      .next { u.setChan c { completingChannel ch .aborted 0#32 with
                abortPending := true, afterFault := true, cmdResult := .done } with
              agenda := recordOwed u c, port := some .ok }) ∧
    (ch.state = .completing → exec (.cmdAbort c p) s =
      .next { u.setChan c { ch with abortPending := true, cmdResult := .done } with port := some .ok }) ∧
    (ch.state = .stopped → exec (.cmdAbort c p) s =
      .next { u.setChan c { ch with cmdResult := .done } with port := some .ok }) ∧
    (∀ l, ch.state = .running → ch.abortPending = false → u.heldLane c = some l → (u.lane l).state ≠ .draining →
      ∃ t, exec (.cmdAbort c p) s = .next t ∧
        t.chan c = { ch with abortPending := true, cmdResult := .done } ∧
        (t.lane l).state = .draining ∧ (t.lane l).owner = (u.lane l).owner ∧ (t.lane l).txns = (u.lane l).txns ∧
        (∀ m, m ≠ l → t.lane m = u.lane m) ∧
        t = { u with
              channels := t.channels, lanes := t.lanes, walkQueue := t.walkQueue, walker := t.walker
              port := some .ok })

/-- R54 whole: FLUSH, in STOPPED only, stores the pending count in FLUSHED and sets SQ_HEAD to SQ_TAIL, and changes
nothing else; CONTINUE, DISABLE and ENABLE keep FLUSHED, the three resets clear it. -/
def Obligations.FlushDiscardsThePendingOrders : Prop :=
  ∀ (s u : State) (c : ChanNo) (p : CmdPort), s.settled = u → u.operating = true →
    let ch := u.chan c
    (ch.state = .stopped → exec (.cmdFlush c p) s =
      .next { u.setChan c { ch with flushed := ch.sqTail - ch.sqHead, sqHead := ch.sqTail, cmdResult := .done } with
              port := some .ok }) ∧
    (ch.state ≠ .stopped → ch.state ≠ .clearing → exec (.cmdFlush c p) s =
      .next { u.setChan c { ch with cmdResult := .wrongState } with port := some .ok }) ∧
    (∀ i ∈ [Instr.cmdContinue c p, .cmdDisable c, .cmdEnable c],
      ∃ t, exec i s = .next t ∧ (t.chan c).flushed = ch.flushed) ∧
    (s.nextDue = some (.channelResetEnd c) → ∃ t, exec (.channelResetEnd c) s = .next t ∧ (t.chan c).flushed = 0#16) ∧
    (∃ t, exec .powerOnReset s = .next t ∧ (t.chan c).flushed = 0#16) ∧
    (s.nextDue = some .softResetEnd → ∃ t, exec .softResetEnd s = .next t ∧ (t.chan c).flushed = 0#16)

/-- ENABLE in DISABLED: the configuration check of R29 decides between IDLE with a fresh context and CONFIG_INVALID
(R29, R30). -/
def Obligations.EnableChecksTheConfiguration : Prop :=
  ∀ (s u : State) (c : ChanNo), s.settled = u → u.operating = true → (u.chan c).state = .disabled →
    (ConfigurationOk u c → exec (.cmdEnable c) s =
      .next { u.setChan c { u.chan c with
                state := .idle, sqHead := 0#16, sqTail := 0#16, cqHead := 0#16, cqTail := 0#16, lap := true
                fault := {}, progress := {}, cmdResult := .done } with port := some .ok }) ∧
    (¬ConfigurationOk u c → exec (.cmdEnable c) s =
      .next { u.setChan c { u.chan c with cmdResult := .configInvalid } with port := some .ok })

/-- RESET: CLEARING, both flags and the wait gone, transactions in flight left to end; a held lane drains, every other
lane and channel stays (R36, R124). -/
def Obligations.ResetCommandStopsTheChannel : Prop :=
  ∀ (s u : State) (c : ChanNo), s.settled = u → u.operating = true → (u.chan c).state ≠ .clearing →
    let ch := u.chan c
    let cleared : Channel := { ch with
      state := .clearing, pausePending := false, abortPending := false, wait := none, passOver := 0#8
      ring := ch.ring.map (fun t => { t with live := false }), cmdResult := .done }
    (u.heldLane c = none → exec (.cmdReset c) s = .next { u.setChan c cleared with port := some .ok }) ∧
    (∀ l, u.heldLane c = some l → ∃ t, exec (.cmdReset c) s = .next t ∧
      t.chan c = cleared ∧ (∀ d, d ≠ c → t.chan d = u.chan d) ∧
      (t.lane l).state = .draining ∧ (t.lane l).owner = some c ∧ (t.lane l).txns = (u.lane l).txns ∧
      ∀ m, m ≠ l → t.lane m = u.lane m)

/-- A command that is not accepted changes nothing but CH_CMD_RESULT: WRONG_STATE by the acceptance table, BUSY in
CLEARING, UNKNOWN_COMMAND for a code the register does not accept (R28). -/
def Obligations.RejectedCommandsChangeOnlyTheResult : Prop :=
  ∀ (s u : State) (c : ChanNo) (p : CmdPort), s.settled = u → u.operating = true →
    let ch := u.chan c
    let result (r : CmdResult) : Host.Outcome State Fault Refusal :=
      .next { u.setChan c { ch with cmdResult := r } with port := some .ok }
    (∀ x ∈ commands c p ch, x.2 = false → ch.state ≠ .clearing → pauseFlagOk ch = true →
      exec x.1 s = result .wrongState) ∧
    (∀ x ∈ commands c p ch, ch.state = .clearing → exec x.1 s = result .busy) ∧
    (∀ code : BitVec 8, ¬(1 ≤ code.toNat ∧ code.toNat ≤ 6) →
      ¬(p = .chCtl ∧ 0x10 ≤ code.toNat ∧ code.toNat ≤ 0x12) →
      exec (.unknownCommand c p code) s = result .unknownCommand)

/-- A command for channel c never changes the state of another channel (R39). -/
def Obligations.CommandsLeaveOtherChannelsAlone : Prop :=
  ∀ (s u : State) (c d : ChanNo) (p : CmdPort), s.settled = u → d ≠ c →
    ∀ x ∈ commands c p (u.chan c), ∃ t, exec x.1 s = .next t ∧ t.chan d = u.chan d

/-- The end of a channel reset: DISABLED, the context at the values of R37, the configuration and the command result
kept, and the waits on the channel's counter evaluated next. -/
def Obligations.ChannelResetEndClearsTheContext : Prop :=
  ∀ (s : State) (c : ChanNo), s.nextDue = some (.channelResetEnd c) →
    ∃ t, exec (.channelResetEnd c) s = .next t ∧
      t = { s.setChan c (t.chan c) with agenda := .waits c :: s.agenda } ∧
      (let ch := t.chan c
       ch.cfg = (s.chan c).cfg ∧ ch.cmdResult = (s.chan c).cmdResult ∧ ch.state = .disabled ∧
       ch.sqHead = 0#16 ∧ ch.sqTail = 0#16 ∧ ch.cqHead = 0#16 ∧ ch.cqTail = 0#16 ∧ ch.lap = false ∧
       ch.order = none ∧ ch.progress = {} ∧ ch.pausePending = false ∧ ch.abortPending = false ∧ ch.fault = {} ∧
       ch.flushed = 0#16 ∧ ch.mark = 0#32 ∧ ch.evtPending = 0#7 ∧ ch.evtMask = 0#7 ∧ ch.coalesceCount = 0#8 ∧
       ch.coalesceTimer = none ∧ ch.passOver = 0#8 ∧ ch.wait = none)

/-! ## The timebase, timeouts and the Synchroniser (chapters 7, 10, 11) -/

/-- A tick boundary: TICK_COUNT increases modulo 2^32, the next tick takes TICK_DIV's length, every running count goes
up by one, and the expiries follow (R123, R165, R168, R169, R174). -/
def Obligations.TickBoundaryCountsEverything : Prop :=
  ∀ (s u : State), s.settled = u → u.operating = true → u.tick.isSome = true →
    ∃ t, exec .tickBoundary s = .next t ∧
      t = { u with
            tickCount := u.tickCount + 1#32, tick := some u.tickDiv, channels := t.channels, lanes := t.lanes
            walker := u.walker.map fun w => { w with age := w.age + 1 }
            agenda := [.expiries] } ∧
      (∀ c, t.chan c = { u.chan c with
        wait := (u.chan c).wait.map fun w => { w with ticks := w.ticks + 1 }
        coalesceTimer := (u.chan c).coalesceTimer.map fun x => { x with ticks := x.ticks + 1 }
        ring := (u.chan c).ring.map fun x => { x with age := x.age + 1 } }) ∧
      ∀ l, t.lane l = { u.lane l with txns := (u.lane l).txns.map fun x => { x with age := x.age + 1 } }

/-- A timeout: a lane's transaction ends as a failure of its position with cause BUS_TIMEOUT, and in a drain without
consequence; a table read or an exchange ends its walk, and the lane of its one request, which for an exchange has passed
its checks, meets BUS_TIMEOUT with the level and the entry, or, where the walk is stale, starts it again; an order read faults its channel; a record write wedges it (R48, R50, R122 to R124, R133, R134, R142,
R149, R158). -/
def Obligations.BusTimeoutEndsTheTransaction : Prop :=
  (∀ (s : State) (l : LaneNo) (k : Nat) (x : LaneTxn), s.nextDue = some (.busTimeout (.lane l k)) →
    (s.lane l).txns[k]? = some x → (s.lane l).state ≠ .draining → (s.lane l).failure = none →
    x.pos ≤ (s.lane l).pos →
    exec (.busTimeoutExpiry (.lane l k)) s = .next (s.setLane l { s.lane l with
      txns := (s.lane l).txns.eraseIdx k, cursor := .begin
      failure := some { pos := x.pos, portion := if x.portion.off = 0 then 0 else 1
                        fault := some { cause := .busTimeout, access := x.kind, level := 0#2
                                        element := elementIndex (s.lane l).order (s.lane l).progress.down x.pos
                                        addr := x.portion.eva.setWidth 44, entry := 0#44 } } })) ∧
  (∀ (s : State) (l : LaneNo) (k : Nat), s.nextDue = some (.busTimeout (.lane l k)) → (s.lane l).state = .draining →
    exec (.busTimeoutExpiry (.lane l k)) s =
      .next (s.setLane l { s.lane l with txns := (s.lane l).txns.eraseIdx k })) ∧
  (∀ (s : State) (w : Walker) (r : WalkRequest) (k : AccessKind) (held : List HeldPortion) (p : Portion)
      (todo : List Portion), s.nextDue = some (.busTimeout .walker) → s.walker = some w →
    w.walk.stale = false → w.walk.requests = [r] → r.abandoned = false →
    (s.lane r.lane).cursor = .translate k held (p :: todo) → (s.lane r.lane).failure = none →
    (∀ (level : Nat) (entry : Pa), w.phase = .reading level entry →
      exec (.busTimeoutExpiry .walker) s = .next (walkFaulted s r p .busTimeout level entry)) ∧
    (∀ (level : Nat) (entry : Pa) (leaf new : BitVec 64), w.phase = .exchanging level entry leaf new →
      Permitted leaf r → exec (.busTimeoutExpiry .walker) s = .next (walkFaulted s r p .busTimeout level entry))) ∧
  (∀ (s : State) (w : Walker), s.nextDue = some (.busTimeout .walker) → s.walker = some w → w.walk.stale = true →
    exec (.busTimeoutExpiry .walker) s = .next (attemptStarted s { w.walk with stale := false })) ∧
  (∀ (s : State) (c : ChanNo) (k : Nat) (x : RingTxn), s.nextDue = some (.busTimeout (.ring c k)) →
    (s.chan c).ring[k]? = some x → x.live = true →
    (x.kind = .read → (s.chan c).state = .fetching →
      exec (.busTimeoutExpiry (.ring c k)) s = .next (s.setChan c (faultedChannel
        { s.chan c with ring := (s.chan c).ring.eraseIdx k }
        { cause := .busTimeout, access := .ring, level := 0#2, element := 0, addr := x.addr, entry := 0#44 }))) ∧
    (∀ r, x.kind = .write r → (s.chan c).state = .completing →
      ∃ t, exec (.busTimeoutExpiry (.ring c k)) s = .next t ∧ t = s.setChan c (t.chan c) ∧
        (t.chan c).state = .wedged ∧ (t.chan c).fault.cause = .busTimeout ∧ (t.chan c).sqHead = (s.chan c).sqHead ∧
        (t.chan c).cqTail = (s.chan c).cqTail ∧ (t.chan c).lap = (s.chan c).lap))

/-- The Synchroniser resolves a waiting order: satisfied, it completes OK with the counter as its RESULT; expired, OK if
the condition holds by then and WAIT_TIMEOUT otherwise; a quiet success ends in the step without a record (R49); in
DOZE the wake follows (R164, R165, R183). -/
def Obligations.WaitsResolveWithTheCounter : Prop :=
  ∀ (s : State) (c : ChanNo) (w : WaitEntry) (o : BitVec 512), (s.chan c).wait = some w → (s.chan c).order = some o →
    let m := (s.chan w.target).mark
    let followOns := recordOwed s c ++ (if s.power = .doze then [.wake] else []) ++ s.agenda
    let after (st : Status) : State :=
      { s.setChan c (completingChannel (s.chan c) st m) with agenda := followOns }
    (s.nextDue = some (.waitSatisfied c) → ordQuiet o = false → exec (.waitSatisfied c) s = .next (after .ok)) ∧
    (s.nextDue = some (.waitTimeout c) → waitMet m w.threshold = false →
      exec (.waitTimeout c) s = .next (after .waitTimeout)) ∧
    (s.nextDue = some (.waitTimeout c) → waitMet m w.threshold = true → ordQuiet o = false →
      exec (.waitTimeout c) s = .next (after .ok)) ∧
    (ordQuiet o = true →
      let quiet : State := { s.setChan c (finishedChannel (completingChannel (s.chan c) .ok m) .ok) with
        agenda := (if s.power = .doze then [.wake] else []) ++ s.agenda }
      (s.nextDue = some (.waitSatisfied c) → exec (.waitSatisfied c) s = .next quiet) ∧
      (s.nextDue = some (.waitTimeout c) → waitMet m w.threshold = true → exec (.waitTimeout c) s = .next quiet))

/-- R162: a WAIT's condition is that the counter has reached the threshold or lies up to 2^31 − 1 beyond it, counting
modulo 2^32; exactly 2^31 apart reads as unsatisfied. -/
def Obligations.WaitConditionIsSignedDistance : Prop :=
  ∀ mark v : BitVec 32,
    (waitMet mark v = true ↔ 0 ≤ (mark - v).toInt) ∧
    (waitMet mark v = true ↔ (mark - v).toNat ≤ 2 ^ 31 - 1) ∧
    (∀ d : Nat, d ≤ 2 ^ 31 - 1 → waitMet (v + BitVec.ofNat 32 d) v = true) ∧
    waitMet (v + 0x80000000#32) v = false ∧ waitMet (v - 0x80000000#32) v = false

/-- A coalescing timer expires: DONE is raised, the counter is 0, the timer stops; and a counted success raises DONE
when the counter reaches the threshold, 0 counting as 1, and otherwise only counts, starting the timer at 1 (R173,
R174). -/
def Obligations.CoalescingRaisesDone : Prop :=
  ∀ (s : State) (c : ChanNo), s.operating = true →
    let ch := s.chan c
    let done : State := s.setChan c { ch with
      evtPending := ch.evtPending ||| 0x01#7, coalesceCount := 0#8, coalesceTimer := none }
    (s.nextDue = some (.timer c) → exec (.coalescingTimerExpiry c) s = .next done) ∧
    (max 1 ch.cfg.threshold.toNat ≤ ch.coalesceCount.toNat + 1 → s.countSuccess c = done) ∧
    (ch.coalesceCount.toNat + 1 < max 1 ch.cfg.threshold.toNat → s.countSuccess c = s.setChan c { ch with
      coalesceCount := ch.coalesceCount + 1#8
      coalesceTimer := if ch.coalesceCount = 0#8 ∧ ch.cfg.timer ≠ 0#16 then some { length := ch.cfg.timer, ticks := 0 }
                       else ch.coalesceTimer })

/-! ## Orders: fetch, validation, completion (chapters 2 to 4) -/

/-- A channel leaves IDLE or WAITING_SLOT in RUN: FETCHING with its progress at the starting values and its order read
owed when a slot is free, WAITING_SLOT when none is (R18, R20, R47). -/
def Obligations.FetchStartsWhenASlotIsFree : Prop :=
  ∀ (s : State) (c : ChanNo), s.isSettled = true → s.operating = true → s.power = .run →
    let ch := s.chan c
    let free := (ch.cqTail - ch.cqHead).toNat < 2 ^ ch.cfg.cqSize.toNat
    ((ch.state = .idle ∧ ch.sqHead ≠ ch.sqTail) ∨ ch.state = .waitingSlot → free →
      exec (.fetchStart c) s = .next { s.setChan c { ch with
        state := .fetching, order := none, progress := {}, afterFault := false } with agenda := [.issue c] }) ∧
    (ch.state = .idle → ch.sqHead ≠ ch.sqTail → ¬free →
      exec (.fetchStart c) s = .next (s.setChan c { ch with state := .waitingSlot }))

/-- The order read at SQ_BASE + (SQ_HEAD mod Ns)·64, and the record write at CQ_BASE + (CQ_TAIL mod Nc)·32 with the
record as it stands, each with the timeout of its issue (R40, R48, R50, R123). -/
def Obligations.RingTransactionsAreIssuedAtTheirSlots : Prop :=
  ∀ (s : State) (c : ChanNo) (rest : List FollowOn), s.agenda = .issue c :: rest → s.operating = true →
    (∀ x ∈ (s.chan c).ring, x.live = false) →
    let ch := s.chan c
    (s.power = .run → ch.state = .fetching → exec (.ringReadIssue c) s = .next (s.setChan c { ch with
      ring := ch.ring ++ [{ kind := .read
                            addr := ch.cfg.sqBase + BitVec.ofNat 44 (ch.sqHead.toNat % 2 ^ ch.cfg.sqSize.toNat * 64)
                            timeout := s.busTimeout, age := 0, live := true }] })) ∧
    (s.power ≠ .doze → ch.state = .completing → exec (.completionWriteIssue c) s = .next (s.setChan c { ch with
      ring := ch.ring ++ [{ kind := .write (ch.record c s.tickCount)
                            addr := ch.cfg.cqBase + BitVec.ofNat 44 (ch.cqTail.toNat % 2 ^ ch.cfg.cqSize.toNat * 32)
                            timeout := s.busTimeout, age := 0, live := true }] }))

/-- The fields of a completion record, by the table of R51, with STATUS by the table of R146 and the cause of an
unresolved fault by its code (R108, R147). -/
def Obligations.CompletionRecordHasItsFields : Prop :=
  ∀ (ch : Channel) (c : ChanNo) (ticks : BitVec 32) (o : BitVec 512), ch.order = some o →
    let r := ch.record c ticks
    r.extractLsb' 0 32 = o.extractLsb' 64 32 ∧
    (r.extractLsb' 32 8 = ch.status.code ∧
      [Status.ok, .aborted, .faultUnresolved, .invalidKind, .reservedNonzero, .invalidField, .denied, .shapeException,
        .waitTimeout, .waitSelf].map (·.code.toNat) = List.range 10) ∧
    (r.getLsbD 40 = ch.lap ∧ r.getLsbD 41 = ch.progress.flags.inexact ∧ r.getLsbD 42 = ch.progress.flags.saturated ∧
      r.getLsbD 43 = ch.progress.flags.wrapped ∧ r.getLsbD 44 = o.getLsbD 9 ∧ r.getLsbD 45 = ch.progress.down ∧
      r.getLsbD 46 = false ∧ r.getLsbD 47 = false) ∧
    r.extractLsb' 48 16 = ch.sqHead ∧
    r.extractLsb' 64 32 = BitVec.ofNat 32 ch.progress.count ∧
    (ch.status = .faultUnresolved →
      r.extractLsb' 128 64 = ch.fault.addr.setWidth 64 ∧ r.extractLsb' 192 8 = ch.fault.cause.code.setWidth 8) ∧
    (ch.status ≠ .faultUnresolved → r.extractLsb' 128 64 = 0#64 ∧ r.extractLsb' 192 8 = 0#8) ∧
    r.extractLsb' 200 8 = BitVec.ofNat 8 c.val ∧ r.extractLsb' 208 16 = 0#16 ∧ r.extractLsb' 224 32 = ticks ∧
    (ch.status ∈ [.invalidKind, .reservedNonzero, .invalidField, .denied] → r.extractLsb' 96 32 = 0#32) ∧
    (ch.status ∉ [.invalidKind, .reservedNonzero, .invalidField, .denied] → orderKind o = some .digest →
      r.extractLsb' 96 32 = BitVec.ofNat 32 (ch.progress.digestB * 65536 + ch.progress.digestA)) ∧
    (ch.status ∉ [.invalidKind, .reservedNonzero, .invalidField, .denied] → orderKind o ≠ some .digest →
      r.extractLsb' 96 32 = ch.result)

/-- Validation takes the first failing check: INVALID_KIND, then RESERVED_NONZERO by the tables of R65 and R66, then
INVALID_FIELD by R66 and R67, then DENIED for a WAIT on another channel whose WAIT_MASK bit is 0. An order that fails
enters COMPLETING with that status, and nothing of it executes (R21, R64 to R69). -/
def Obligations.ValidationTakesTheFirstFailingCheck : Prop :=
  (∀ (c : ChanNo) (mask : BitVec 8) (o : BitVec 512),
    let kind := (o.extractLsb' 0 8).toNat
    (¬(1 ≤ kind ∧ kind ≤ 6) → validate c mask o = .invalidKind) ∧
    (1 ≤ kind → kind ≤ 6 → o.extractLsb' 10 6 ≠ 0#6 → validate c mask o = .reservedNonzero) ∧
    (∀ k, orderKind o = some k →
      (reservedNonzero k o = true ↔ ZeroFieldSet o) ∧ (invalidField k o = true ↔ FieldOutOfRange o)) ∧
    (∀ k, orderKind o = some k → reservedNonzero k o = true → validate c mask o = .reservedNonzero) ∧
    (∀ k, orderKind o = some k → reservedNonzero k o = false → invalidField k o = true →
      validate c mask o = .invalidField) ∧
    (∀ k, orderKind o = some k → reservedNonzero k o = false → invalidField k o = false →
      let t := (o.extractLsb' 384 8).toNat
      (kind = 5 → t ≠ c.val → mask.getLsbD t = false → validate c mask o = .denied) ∧
      (kind ≠ 5 ∨ t = c.val ∨ mask.getLsbD t = true → validate c mask o = .ok))) ∧
  (∀ (s u : State) (c : ChanNo) (k : Nat) (x : RingTxn) (o : BitVec 512), s.settled = u → u.operating = true →
    (u.chan c).ring[k]? = some x → x.kind = .read → x.live = true → (u.chan c).state = .fetching →
    validate c (u.chan c).cfg.waitMask o ≠ .ok →
    exec (.ringReadResponse c k (some o)) s =
      .next { u.setChan c { completingChannel (u.chan c) (validate c (u.chan c).cfg.waitMask o) 0#32 with
                ring := (u.chan c).ring.eraseIdx k, order := some o } with
              agenda := recordOwed u c })

/-- A valid order leaves FETCHING by its kind: a NOTE and a COUNT 0 order to COMPLETING with status OK, a MOVE, FILL or
DIGEST with elements to QUEUED with its digest seeded and its direction decided (R21, R70, R74, R75, R92, R106). A quiet
NOTE or COUNT 0 order ends in the step: no record is owed, SQ_HEAD advances, CQ_TAIL and LAP stay (R24, R45, R49). -/
def Obligations.ValidOrdersLeaveFetchingByKind : Prop :=
  ∀ (s u : State) (c : ChanNo) (k : Nat) (x : RingTxn) (o : BitVec 512), s.settled = u → u.operating = true →
    (u.chan c).ring[k]? = some x → x.kind = .read → x.live = true → (u.chan c).state = .fetching →
    validate c (u.chan c).cfg.waitMask o = .ok →
    let kind := (o.extractLsb' 0 8).toNat
    let count := (o.extractLsb' 32 32).toNat
    let size := fmtSize (ordSrcFmt o)
    let src := (walkBase (ordSrcWalk o)).toNat
    let dst := (walkBase (ordDstWalk o)).toNat
    let progress : Progress :=
      { count := 0, flags := { inexact := false, saturated := false, wrapped := false }
        digestA := if kind = 3 then (o.extractLsb' 384 16).toNat % 65519 else 0
        digestB := if kind = 3 then (o.extractLsb' 400 16).toNat % 65519 else 0
        down := decide (kind = 1 ∧ walkDir (ordSrcWalk o) = 2#2 ∧ walkDir (ordDstWalk o) = 2#2 ∧
          src < dst ∧ dst < src + count * size) }
    let ch : Channel := { u.chan c with ring := (u.chan c).ring.eraseIdx k, order := some o, progress := progress }
    (kind = 6 ∨ (kind ≤ 3 ∧ count = 0) → o.getLsbD 8 = false →
      exec (.ringReadResponse c k (some o)) s =
        .next { u.setChan c (completingChannel ch .ok 0#32) with agenda := recordOwed u c }) ∧
    (kind ≤ 3 → count ≠ 0 → exec (.ringReadResponse c k (some o)) s =
      .next { u.setChan c { ch with state := .queued } with agenda := if u.power = .run then [.grants] else [] }) ∧
    (kind = 6 ∨ (kind ≤ 3 ∧ count = 0) → o.getLsbD 8 = true →
      exec (.ringReadResponse c k (some o)) s = .next (u.setChan c (finishedChannel (completingChannel ch .ok 0#32) .ok)))

/-- A valid MARK adds ADD to its channel's counter and completes OK with the new value, or ends in the step without a
record when it is quiet; the waits on the counter are evaluated after the record is issued (R1, R21, R49, R160). -/
def Obligations.MarkAddsToItsCounter : Prop :=
  ∀ (s u : State) (c : ChanNo) (k : Nat) (x : RingTxn) (o : BitVec 512), s.settled = u → u.operating = true →
    (u.chan c).ring[k]? = some x → x.kind = .read → x.live = true → (u.chan c).state = .fetching →
    validate c (u.chan c).cfg.waitMask o = .ok → (o.extractLsb' 0 8).toNat = 4 →
    let v := (u.chan c).mark + (o.extractLsb' 384 16).setWidth 32
    let ch : Channel := { completingChannel (u.chan c) .ok v with
      ring := (u.chan c).ring.eraseIdx k, order := some o, progress := {}, mark := v }
    (o.getLsbD 8 = false → exec (.ringReadResponse c k (some o)) s =
      .next { u.setChan c ch with agenda := recordOwed u c ++ [.waits c] }) ∧
    (o.getLsbD 8 = true → exec (.ringReadResponse c k (some o)) s =
      .next { u.setChan c (finishedChannel ch .ok) with agenda := [.waits c] })

/-- A valid WAIT is evaluated on entry: satisfied, it completes OK, and ends in the step without a record when it is
quiet (R49); a self-wait not satisfied completes WAIT_SELF; any other waits with a tick count of 0 (R163). -/
def Obligations.WaitIsEvaluatedOnEntry : Prop :=
  ∀ (s u : State) (c t : ChanNo) (k : Nat) (x : RingTxn) (o : BitVec 512), s.settled = u → u.operating = true →
    (u.chan c).ring[k]? = some x → x.kind = .read → x.live = true → (u.chan c).state = .fetching →
    validate c (u.chan c).cfg.waitMask o = .ok → (o.extractLsb' 0 8).toNat = 5 →
    (o.extractLsb' 384 8).toNat = t.val →
    let v := o.extractLsb' 416 32
    let m := (u.chan t).mark
    let ch : Channel := { u.chan c with ring := (u.chan c).ring.eraseIdx k, order := some o, progress := {} }
    (0 ≤ (m - v).toInt → o.getLsbD 8 = false → exec (.ringReadResponse c k (some o)) s =
      .next { u.setChan c (completingChannel ch .ok m) with agenda := recordOwed u c }) ∧
    (0 ≤ (m - v).toInt → o.getLsbD 8 = true → exec (.ringReadResponse c k (some o)) s =
      .next (u.setChan c (finishedChannel (completingChannel ch .ok m) .ok))) ∧
    ((m - v).toInt < 0 → t = c → exec (.ringReadResponse c k (some o)) s =
      .next { u.setChan c (completingChannel ch .waitSelf m) with agenda := recordOwed u c }) ∧
    ((m - v).toInt < 0 → t ≠ c → exec (.ringReadResponse c k (some o)) s =
      .next (u.setChan c { ch with
        state := .syncWait
        wait := some { target := t, threshold := v, timeout := o.extractLsb' 448 32, ticks := 0 } }))

/-- A failed order read makes the channel ring-faulted with the record of R149 and FAULT raised; one the channel no
longer waits for ends and changes nothing else (R21, R48, R149). -/
def Obligations.FailedOrderReadRingFaults : Prop :=
  ∀ (s u : State) (c : ChanNo) (k : Nat) (x : RingTxn), s.settled = u → u.operating = true →
    (u.chan c).ring[k]? = some x → x.kind = .read →
    let ch : Channel := { u.chan c with ring := (u.chan c).ring.eraseIdx k }
    (x.live = true → (u.chan c).state = .fetching → exec (.ringReadResponse c k none) s =
      .next (u.setChan c (faultedChannel ch
        { cause := .ringReadError, access := .ring, level := 0#2, element := 0, addr := x.addr, entry := 0#44 }))) ∧
    (x.live = false → ∀ data, exec (.ringReadResponse c k data) s = .next (u.setChan c ch))

/-- The OK response to a record write: CQ_TAIL and SQ_HEAD advance, LAP toggles at a multiple of Nc, an OK outcome
counts toward DONE by EVENT or EVENT_ALL, any other raises ERROR, and the outcome chooses STOPPED or IDLE (R24, R50,
R52, R170, R173, R175); an error response wedges the channel and moves no index (R25, R158). The answer to a write the
channel no longer waits for ends it and changes nothing else (R36). -/
def Obligations.RecordResponseFinishesOrWedges : Prop :=
  ∀ (s u : State) (c : ChanNo) (k : Nat) (x : RingTxn) (r : BitVec 256), s.settled = u → u.operating = true →
    (u.chan c).ring[k]? = some x → x.kind = .write r →
    let ch := u.chan c
    (x.live = true → ch.state = .completing →
      exec (.completionWriteResponse c k true) s = .next (u.setChan c (finishedChannel { ch with
        ring := ch.ring.eraseIdx k, cqTail := ch.cqTail + 1#16
        lap := if (ch.cqTail + 1#16).toNat % 2 ^ ch.cfg.cqSize.toNat = 0 then !ch.lap else ch.lap } ch.status))) ∧
    (x.live = true → ch.state = .completing →
      exec (.completionWriteResponse c k false) s = .next (u.setChan c (flushed { ch with
        ring := ch.ring.eraseIdx k, state := .wedged, pausePending := false, abortPending := false
        fault := { cause := .completionWriteError, prior := if ch.afterFault then ch.fault.cause else .none
                   access := .completion, level := 0#2
                   count := if ch.fault.count = 255#8 then 255#8 else ch.fault.count + 1#8
                   index := ch.sqHead, element := 0#24, addr := x.addr, entry := 0#44 } } 0x10#7))) ∧
    (x.live = false → ∀ ok, exec (.completionWriteResponse c k ok) s =
      .next (u.setChan c { ch with ring := ch.ring.eraseIdx k }))

/-! ## Lanes (chapter 7) -/

/-- A grant: the lowest-numbered FREE lane goes to a QUEUED channel of the highest effective class, the first such
after the round-robin pointer; the pointer and the pass-over counts follow (R113 to R115). -/
def Obligations.GrantFollowsClassAndRoundRobin : Prop :=
  ∀ s : State, s.nextDue = some .grant →
    let cls (c : ChanNo) : Nat :=
      if s.agingLimit ≠ 0#8 ∧ s.agingLimit.toNat ≤ (s.chan c).passOver.toNat then 4 else (s.chan c).cfg.priority.toNat
    let distance (c : ChanNo) : Nat := (c.val + 7 - s.roundRobin.val) % 8
    ∃ (t : State) (c : ChanNo) (l : LaneNo), exec .laneGrant s = .next t ∧
      (s.chan c).state = .queued ∧ (s.lane l).state = .free ∧ (∀ m : LaneNo, m < l → (s.lane m).state ≠ .free) ∧
      (∀ d, (s.chan d).state = .queued →
        cls d ≤ cls c ∧ (cls d = cls c → distance c ≤ distance d)) ∧
      t = { s with channels := t.channels, lanes := t.lanes, roundRobin := c } ∧
      t.chan c = { s.chan c with state := .running, passOver := 0#8 } ∧
      t.lane l = { state := .loading, owner := some c } ∧ (∀ m, m ≠ l → t.lane m = s.lane m) ∧
      ∀ d, d ≠ c → t.chan d = { s.chan d with
        passOver := if (s.chan d).state = .queued ∧ (s.chan d).passOver ≠ 255#8 then (s.chan d).passOver + 1#8
                    else (s.chan d).passOver }

/-- The takeover: the lane has the order, the progress, SID and TRUST of its channel and starts a beat of up to 32
positions at the progress count; a beat's end moves a MOVE from READING to WRITING, and otherwise starts the next
beat there (R116, R118, R119). A FILL's beat holds the ramp values of its positions, with no flag (R105). -/
def Obligations.BeatsStartAtTheProgressCount : Prop :=
  let holdsRamp (x : Lane) : Prop := ∀ j, j < x.slots.length →
    let size := 2 ^ ((x.order.extractLsb' 20 4).toNat / 2 % 4)
    let v := ((x.order.extractLsb' 384 64).toNat + (x.beatStart + j) * (x.order.extractLsb' 448 64).toNat) % 2 ^ (8 * size)
    (x.slots[j]?).map (·.shaped) = some (some
      { bytes := elementBytes v size (x.order.getLsbD 28)
        flags := { inexact := false, saturated := false, wrapped := false } })
  (∀ (s : State) (l : LaneNo) (c : ChanNo) (o : BitVec 512), s.nextDue = some (.takeover l) →
    (s.lane l).owner = some c → (s.chan c).order = some o →
    ∃ t, exec (.laneTakeover l) s = .next t ∧ t.channels = s.channels ∧ (∀ m, m ≠ l → t.lane m = s.lane m) ∧
      (let x := t.lane l
       x.order = o ∧ x.progress = (s.chan c).progress ∧ x.sid = (s.chan c).cfg.sid ∧ x.trust = (s.chan c).cfg.trust ∧
       x.owner = some c ∧ x.beatStart = x.progress.count ∧
       x.slots.length = min 32 (ordCount o - x.progress.count) ∧
       x.state = (if (o.extractLsb' 0 8).toNat = 2 then .writing else .reading) ∧
       ((o.extractLsb' 0 8).toNat = 2 → holdsRamp x))) ∧
  (∀ (s : State) (l : LaneNo), s.nextDue = some (.beat l) →
    ∃ t, exec (.beatEnd l) s = .next t ∧ t.channels = s.channels ∧ (∀ m, m ≠ l → t.lane m = s.lane m) ∧
      (let x := s.lane l
       let y := t.lane l
       y.order = x.order ∧ y.progress = x.progress ∧ y.owner = x.owner ∧
       (x.state = .reading ∧ (x.order.extractLsb' 0 8).toNat = 1 →
         y.state = .writing ∧ y.beatStart = x.beatStart ∧ y.slots.length = x.slots.length) ∧
       (¬(x.state = .reading ∧ (x.order.extractLsb' 0 8).toNat = 1) →
         y.state = (if (x.order.extractLsb' 0 8).toNat = 2 then .writing else .reading) ∧
         y.beatStart = x.progress.count ∧
         y.slots.length = min 32 (ordCount x.order - x.progress.count) ∧
         ((x.order.extractLsb' 0 8).toNat = 2 → holdsRamp y))))

/-- A pointer read's answer, for the position a lane takes (R84 to R86, R89, R90, R117, R122): an error is a failure of
the position with the pointer access kind; an element address outside the space is an ADDRESS_RANGE failure with the
data access kind; an address in range asks for its translations. In a TRANSLATED space a portion that no cache entry
serves leaves the lane with its request outstanding, and one that an entry serves is translated by it (R137); in a
BYPASS space the PA is the EVA (R127); a translated element is accessed portion by portion (R117). A SHORT or MEDIUM
pointer plus the displacement wraps within 16 or 32 bits under the plane; a FULL one does not wrap. That the lane meets
the failure, asks and issues in the step of the answer is the model's choice (notes/assumptions/11.md). -/
def Obligations.PointerReadFormsTheElementAddress : Prop :=
  ∀ (s u : State) (l : LaneNo) (k : Nat) (x : LaneTxn) (d : BitVec 64), s.settled = u →
    let y := u.lane l
    let reading := decide (y.state = .reading)
    y.state = .reading ∨ y.state = .writing →
    y.txns[k]? = some x → x.kind = (if reading then .srcPointer else .dstPointer) → x.pos = y.pos →
    y.failure = none → y.cursor = .pointer → y.ptrLeft = 1 → y.request = false → y.place < y.slots.length →
    let v := y.ptrRaw ||| BitVec.ofNat 64 (d.toNat % 2 ^ (8 * x.portion.len) * 2 ^ (8 * x.portion.off))
    let w := if reading then ordSrcWalk y.order else ordDstWalk y.order
    let size := if reading then fmtSize (ordSrcFmt y.order) else fmtSize (ordDstFmt y.order)
    let data : AccessKind := if reading then .srcData else .dstData
    let disp := (w.extractLsb' 64 32).toInt
    let a : Int :=
      if walkPtrWidth w = 0#2 then ((w.extractLsb' 96 24).toNat : Int) * 2 ^ 16 + ((v.toNat % 2 ^ 16 : Nat) + disp) % 2 ^ 16
      else if walkPtrWidth w = 1#2 then
        ((w.extractLsb' 96 8).toNat : Int) * 2 ^ 32 + ((v.toNat % 2 ^ 32 : Nat) + disp) % 2 ^ 32
      else v.toInt + disp
    let i := elementIndex y.order y.progress.down y.pos
    (exec (.pointerReadResponse l k none) s = .next (u.setLane l { y with
      txns := y.txns.eraseIdx k, cursor := .begin
      failure := some { pos := y.pos, portion := if x.portion.off = 0 then 0 else 1
                        fault := some { cause := .busErrorData, access := x.kind, level := 0#2, element := i
                                        addr := x.portion.eva.setWidth 44, entry := 0#44 } } })) ∧
    (¬(0 ≤ a ∧ a + size ≤ 2 ^ 40) →
      ∃ t, exec (.pointerReadResponse l k (some d)) s = .next t ∧ t = u.setLane l (t.lane l) ∧
        (t.lane l).txns = y.txns.eraseIdx k ∧
        (t.lane l).failure = some { pos := y.pos, portion := 0
                                    fault := some { cause := .addressRange, access := data, level := 0#2
                                                    element := i, addr := BitVec.ofInt 44 a, entry := 0#44 } }) ∧
    (0 ≤ a → a + size ≤ 2 ^ 40 → (u.space y.sid).mode = 2#2 →
      (∀ e ∈ u.cache, servedBy e y.sid (BitVec.ofInt 40 a) (data == .dstData) y.trust = false) →
      ∃ t, exec (.pointerReadResponse l k (some d)) s = .next t ∧
        (t.lane l).txns = y.txns.eraseIdx k ∧ (t.lane l).failure = none ∧ (t.lane l).request = true ∧
        (t.lane l).cursor = .translate data [] (portionsOf a.toNat size) ∧
        t.channels = u.channels ∧ ∀ m, m ≠ l → t.lane m = u.lane m) ∧
    (∀ e : CacheEntry, 0 ≤ a → a + size ≤ 2 ^ 40 → a % 4096 + size ≤ 4096 → (u.space y.sid).mode = 2#2 →
      u.cache.find? (fun f => servedBy f y.sid (BitVec.ofInt 40 a) (data == .dstData) y.trust) = some e →
      ∃ t, exec (.pointerReadResponse l k (some d)) s = .next t ∧ t.channels = u.channels ∧
        IssuesInOrder y u.busTimeout data
          [{ portion := { eva := BitVec.ofInt 40 a, off := 0, len := size }
             pa := framePa e.frame e.block (BitVec.ofInt 40 a), old := false }]
          (y.txns.eraseIdx k) (t.lane l).txns) ∧
    (0 ≤ a → a + size ≤ 2 ^ 40 → (u.space y.sid).mode = 1#2 →
      ∃ t, exec (.pointerReadResponse l k (some d)) s = .next t ∧ t.channels = u.channels ∧
        IssuesInOrder y u.busTimeout data
          ((portionsOf a.toNat size).map fun q => { portion := q, pa := q.eva.setWidth 44, old := false })
          (y.txns.eraseIdx k) (t.lane l).txns)

/-- A data read's answer puts its bytes at their place in the position, or in a drain is discarded; a data write's
acknowledgement of the last portion of the position at the progress count passes it, its flags joining the sticky
flags, in a drain too; an error is a failure of its position, with cause BUS_ERROR_DATA (R102, R118, R120, R122, R124).
The last read portion of a position whose lower positions are shaped, and for a DIGEST counted, shapes it: a flag that
STRICT selects fails it, with no fault; else a MOVE keeps its bytes and flags, and a DIGEST folds its bytes, first byte
first, and passes it (R103, R107, R118 to R120). For a lane that has taken every position of its beat and settles no
failure. -/
def Obligations.LaneAnswersFillAndCountPositions : Prop :=
  ∀ (s u : State) (l : LaneNo) (k : Nat) (x : LaneTxn), s.settled = u →
    let y := u.lane l
    y.txns[k]? = some x → y.failure = none → y.slots.length ≤ y.place →
    (x.kind = .srcData → y.state = .reading → ∀ d : BitVec 64,
      ∃ t, exec (.laneReadResponse l k (some d)) s = .next t ∧ t = u.setLane l (t.lane l) ∧
        (t.lane l).txns = y.txns.eraseIdx k ∧ (t.lane l).slots.length = y.slots.length ∧
        ∀ b, y.slots[x.pos - y.beatStart]? = some b →
          ((t.lane l).slots[x.pos - y.beatStart]?).map (·.raw) =
            some (b.raw ||| BitVec.ofNat 64 (d.toNat % 2 ^ (8 * x.portion.len) * 2 ^ (8 * x.portion.off)))) ∧
    (x.kind = .srcData → y.state = .draining → ∀ d,
      exec (.laneReadResponse l k d) s = .next (u.setLane l { y with txns := y.txns.eraseIdx k })) ∧
    (x.kind = .srcData ∨ x.kind = .dstData → y.state ≠ .draining → x.pos ≤ y.pos →
      exec (if x.kind = .srcData then .laneReadResponse l k none else .laneWriteResponse l k false) s =
        .next (u.setLane l { y with
          txns := y.txns.eraseIdx k, cursor := .begin
          failure := some { pos := x.pos, portion := if x.portion.off = 0 then 0 else 1
                            fault := some { cause := .busErrorData, access := x.kind, level := 0#2
                                            element := elementIndex y.order y.progress.down x.pos
                                            addr := x.portion.eva.setWidth 44, entry := 0#44 } } })) ∧
    (x.kind = .dstData → y.state = .writing ∨ y.state = .draining → (y.order.extractLsb' 0 8).toNat ≠ 3 → x.pos = y.progress.count →
      y.beatStart ≤ x.pos → ∀ (b : BeatSlot) (sh : Shaped), y.slots[x.pos - y.beatStart]? = some b →
      b.writesLeft = some 1 → b.shaped = some sh →
      (∀ n, y.slots[x.pos + 1 - y.beatStart]? = some n → n.writesLeft ≠ some 0) →
      ∃ t, exec (.laneWriteResponse l k true) s = .next t ∧ t = u.setLane l (t.lane l) ∧
        (t.lane l).txns = y.txns.eraseIdx k ∧
        (t.lane l).progress = { y.progress with
          count := y.progress.count + 1
          flags := { inexact := y.progress.flags.inexact || sh.flags.inexact
                     saturated := y.progress.flags.saturated || sh.flags.saturated
                     wrapped := y.progress.flags.wrapped || sh.flags.wrapped } }) ∧
    (x.kind = .srcData → y.state = .reading → y.beatStart ≤ x.pos → ∀ (b : BeatSlot) (d : BitVec 64),
      y.slots[x.pos - y.beatStart]? = some b → b.readsLeft = some 1 → b.isShaped = false →
      (∀ j n, j < x.pos - y.beatStart → y.slots[j]? = some n → n.isShaped = true) →
      (∀ n, y.slots[x.pos + 1 - y.beatStart]? = some n → n.isShaped = false ∧ n.readsLeft ≠ some 0) →
      ((y.order.extractLsb' 0 8).toNat = 3 → x.pos = y.progress.count) →
      let raw := b.raw ||| BitVec.ofNat 64 (d.toNat % 2 ^ (8 * x.portion.len) * 2 ^ (8 * x.portion.off))
      let sh := shapeElement y.order raw
      let size := 2 ^ ((y.order.extractLsb' 20 4).toNat / 2 % 4)
      let fold (ab : Nat × Nat) (j : Nat) : Nat × Nat :=
        let a := (ab.1 + sh.bytes.toNat / 256 ^ j % 256) % 65519
        (a, (ab.2 + a) % 65519)
      let digest := (List.range size).foldl fold (y.progress.digestA, y.progress.digestB)
      let strict := (sh.flags.inexact && y.order.getLsbD 104) || (sh.flags.saturated && y.order.getLsbD 105) ||
        (sh.flags.wrapped && y.order.getLsbD 106)
      ∃ t, exec (.laneReadResponse l k (some d)) s = .next t ∧ t = u.setLane l (t.lane l) ∧
        (strict = true → (t.lane l).failure = some { pos := x.pos, portion := 0, fault := none } ∧
          (t.lane l).progress = y.progress) ∧
        (strict = false → (y.order.extractLsb' 0 8).toNat ≠ 3 →
          (t.lane l).failure = none ∧ (t.lane l).progress = y.progress ∧
          (t.lane l).slots[x.pos - y.beatStart]? = some { b with
            raw := raw, readsLeft := some 0, isShaped := true, shaped := some sh }) ∧
        (strict = false → (y.order.extractLsb' 0 8).toNat = 3 →
          (t.lane l).failure = none ∧ (t.lane l).progress = { y.progress with
            count := y.progress.count + 1
            flags := { inexact := y.progress.flags.inexact || sh.flags.inexact
                       saturated := y.progress.flags.saturated || sh.flags.saturated
                       wrapped := y.progress.flags.wrapped || sh.flags.wrapped }
            digestA := digest.1, digestB := digest.2 }))

/-- How an order leaves its lane: its end without a fault, a quiet success ending in the step without a record (R49), the
hand-over of a fault with the record of R148, the end of a drain for ABORT, and a drain that returns nothing. In each
the lane is released and, where it becomes FREE in RUN, a grant decision follows (R22, R111, R113, R121, R122, R124,
R179). -/
def Obligations.OrdersLeaveTheirLanes : Prop :=
  ∀ (s : State) (l : LaneNo) (c : ChanNo) (o : BitVec 512), (s.lane l).owner = some c → (s.chan c).order = some o →
    let ch : Channel := { s.chan c with progress := (s.lane l).progress }
    let released := s.setLane l (releasedLane s l)
    let owed := recordOwed s c ++ grantOwed s l ++ s.agenda
    (∀ st, s.nextDue = some (.orderEnd l) → (s.lane l).ending = some (.order st) → st ≠ .ok ∨ ordQuiet o = false →
      exec (.orderEnd l) s =
        .next { released.setChan c (completingChannel ch st 0#32) with agenda := owed }) ∧
    (s.nextDue = some (.orderEnd l) → (s.lane l).ending = some (.order .ok) → ordQuiet o = true → s.operating = true →
      exec (.orderEnd l) s = .next { released.setChan c (finishedChannel (completingChannel ch .ok 0#32) .ok) with
        agenda := grantOwed s l ++ s.agenda }) ∧
    (∀ f, s.nextDue = some (.handover l) → (s.lane l).ending = some (.handover f) → s.operating = true →
      exec (.faultHandover l) s =
        .next { released.setChan c (faultedChannel ch f) with agenda := grantOwed s l ++ s.agenda }) ∧
    (s.nextDue = some (.drainEnd l) → s.power ≠ .resetting → (s.chan c).state = .running →
      exec (.drainEnd l) s =
        .next { released.setChan c (completingChannel ch .aborted 0#32) with agenda := owed }) ∧
    (s.nextDue = some (.drainEnd l) → s.power = .resetting ∨ (s.chan c).state ≠ .running →
      exec (.drainEnd l) s = .next { released with agenda := grantOwed s l ++ s.agenda })

/-! ## Translation (chapter 8) -/

/-- The walker starts a queued walk whose requests all miss, with a read of the level-1 entry; a well-formed table
entry sends it on to the next level. A read that ends in an error ends the walk with BUS_ERROR_WALK, an entry with VALID
0 with NOT_MAPPED, a malformed one with ENTRY_MALFORMED, for the lane of its one request. At a leaf, a page or a block,
that request meets OWNER_ONLY, READ_DENIED or WRITE_DENIED by the first check that fails; one that passes and for which
the leaf lacks a flag meets FLAG_CLEAR where FLAG_UPDATE is 0, and else the leaf is exchanged for itself with TOUCHED,
and for a write MODIFIED, set; where it lacks none the translation reaches the lane, which accesses the portions it holds
if that was the last. Each fault carries the level and the PA of the entry. Where the walk is stale, an attempt that ends
starts again instead (R117, R126, R128 to R132, R134, R135, R139, R140, R142, R148; at once: notes/assumptions/11.md). -/
def Obligations.WalksReadLevelByLevel : Prop :=
  (∀ (s : State) (w : Walk) (rest : List Walk), s.nextDue = some .walk → s.walkQueue = w :: rest →
    w.requests ≠ [] → (∀ r ∈ w.requests, lookupCache s.cache w.sid r = none) →
    exec .walkStart s = .next (attemptStarted { s with walkQueue := rest } { w with stale := false, compareFails := 0 })) ∧
  (∀ (s u : State) (w : Walker) (level : Nat) (entry : Pa) (e : BitVec 64), s.settled = u → u.power ≠ .resetting →
    u.walker = some w → w.phase = .reading level entry →
    (level = 1 ∨ level = 2 → e &&& 0xFFFFF00000000FFF#64 = 1#64 →
      exec (.tableReadResponse (some e)) s = .next { u with
        walker := some { walk := w.walk
                         phase := .reading (level + 1) ((e.extractLsb' 12 32 ++ 0#12) +
                           (if level = 1 then (w.walk.page.extractLsb' 9 9).setWidth 44
                            else (w.walk.page.extractLsb' 0 9).setWidth 44) * 8#44)
                         timeout := u.busTimeout, age := 0 } }) ∧
    (∀ data : Option (BitVec 64), w.walk.stale = true →
      data = none ∨
        (data = some e ∧ (e.getLsbD 0 = false ∨ MalformedAt e level ∨
          (LeafAt e level ∧ ((u.space w.walk.sid).flagUpdate = false ∨
            ∀ r ∈ w.walk.requests, Permitted e r → ¬LacksFlags e r)))) →
      exec (.tableReadResponse data) s = .next (attemptStarted u { w.walk with stale := false })) ∧
    (∀ r : WalkRequest, LeafAt e level → w.walk.requests = [r] → Permitted e r → LacksFlags e r →
      (u.space w.walk.sid).flagUpdate = true →
      exec (.tableReadResponse (some e)) s = .next { u with
        walker := some { walk := w.walk
                         phase := .exchanging level entry e (e ||| 0x20#64 ||| if r.write then 0x40#64 else 0#64)
                         timeout := u.busTimeout, age := 0 } }) ∧
    (∀ (r : WalkRequest) (k : AccessKind) (held : List HeldPortion) (p : Portion) (todo : List Portion),
      w.walk.stale = false → w.walk.requests = [r] → r.abandoned = false →
      let y := u.lane r.lane
      y.cursor = .translate k held (p :: todo) → y.failure = none →
      let faulted (cause : Cause) : Host.Outcome State Fault Refusal := .next (walkFaulted u r p cause level entry)
      exec (.tableReadResponse none) s = faulted .busErrorWalk ∧
      (e.getLsbD 0 = false → exec (.tableReadResponse (some e)) s = faulted .notMapped) ∧
      (e.getLsbD 0 = true → MalformedAt e level → exec (.tableReadResponse (some e)) s = faulted .entryMalformed) ∧
      (LeafAt e level →
        (r.trust = false → e.getLsbD 4 = true → exec (.tableReadResponse (some e)) s = faulted .ownerOnly) ∧
        (r.trust = true ∨ e.getLsbD 4 = false → r.write = false → e.getLsbD 2 = false →
          exec (.tableReadResponse (some e)) s = faulted .readDenied) ∧
        (r.trust = true ∨ e.getLsbD 4 = false → r.write = true → e.getLsbD 3 = false →
          exec (.tableReadResponse (some e)) s = faulted .writeDenied) ∧
        (Permitted e r → LacksFlags e r → (u.space w.walk.sid).flagUpdate = false →
          exec (.tableReadResponse (some e)) s = faulted .flagClear) ∧
        (Permitted e r → ¬LacksFlags e r → todo = [] → y.state = .reading ∨ y.state = .writing →
          y.place < y.slots.length →
          ∃ t, exec (.tableReadResponse (some e)) s = .next t ∧ t.walker = none ∧ t.channels = u.channels ∧
            (∀ m, m ≠ r.lane → t.lane m = u.lane m) ∧
            IssuesInOrder y u.busTimeout k
              (held ++ [{ portion := p, pa := framePa (e.extractLsb' 12 32 ++ 0#12) (level == 2) r.eva, old := false }])
              y.txns (t.lane r.lane).txns))))

/-- A flag-update exchange: a comparison that fails restarts the walk with its count up by one; the fourth failure ends
the walk with WALK_CONTENTION, and an error with BUS_ERROR_WALK, both with the leaf's level and PA, for the lane of its
one request, which passed its checks; one that succeeds gives that lane its translation, and the lane accesses the
portions it holds if that was the last. A stale walk restarts with its count unchanged. An answer whose lane has
abandoned its request reaches no lane, but a translation is still inserted into the cache (R126, R130, R132, R133, R138,
R140, R142; at once: notes/assumptions/11.md). -/
def Obligations.ExchangeFailuresRestartTheWalk : Prop :=
  ∀ (s u : State) (w : Walker) (level : Nat) (entry : Pa) (leaf new : BitVec 64), s.settled = u →
    u.power ≠ .resetting → u.walker = some w → w.phase = .exchanging level entry leaf new →
    (w.walk.stale = true → ∀ r, exec (.exchangeResponse r) s = .next (attemptStarted u { w.walk with stale := false })) ∧
    (w.walk.stale = false → w.walk.compareFails < 3 →
      exec (.exchangeResponse .mismatch) s =
        .next (attemptStarted u { w.walk with compareFails := w.walk.compareFails + 1 })) ∧
    (∀ (r : WalkRequest) (k : AccessKind) (held : List HeldPortion) (p : Portion) (todo : List Portion),
      w.walk.stale = false → w.walk.requests = [r] → r.abandoned = false →
      let y := u.lane r.lane
      y.cursor = .translate k held (p :: todo) → y.failure = none →
      (Permitted leaf r → 3 ≤ w.walk.compareFails →
        exec (.exchangeResponse .mismatch) s = .next (walkFaulted u r p .walkContention level entry)) ∧
      (Permitted leaf r →
        exec (.exchangeResponse .error) s = .next (walkFaulted u r p .busErrorWalk level entry)) ∧
      (Permitted new r → todo = [] → y.state = .reading ∨ y.state = .writing → y.place < y.slots.length →
        ∃ t, exec (.exchangeResponse .swapped) s = .next t ∧ t.walker = none ∧ t.channels = u.channels ∧
          (∀ m, m ≠ r.lane → t.lane m = u.lane m) ∧
          IssuesInOrder y u.busTimeout k
            (held ++ [{ portion := p, pa := framePa (new.extractLsb' 12 32 ++ 0#12) (level == 2) r.eva, old := false }])
            y.txns (t.lane r.lane).txns)) ∧
    ((∀ r ∈ w.walk.requests, r.abandoned = true) → w.walk.stale = false → 3 ≤ w.walk.compareFails →
      exec (.exchangeResponse .mismatch) s = .next { u with walker := none, agenda := [.walk] }) ∧
    ((∀ r ∈ w.walk.requests, r.abandoned = true) → w.walk.stale = false →
      exec (.exchangeResponse .error) s = .next { u with walker := none, agenda := [.walk] }) ∧
    ((∀ r ∈ w.walk.requests, r.abandoned = true) → w.walk.stale = false →
      (∃ r ∈ w.walk.requests, Permitted new r) →
      ∃ t, exec (.exchangeResponse .swapped) s = .next t ∧
        t = { u with walker := none, agenda := [.walk], cache := t.cache } ∧ t.cache.length ≤ 32 ∧
        t.cache.head? = some { sid := w.walk.sid, page := w.walk.page, block := level == 2
                               frame := new.extractLsb' 12 32 ++ 0#12, read := new.getLsbD 2, write := new.getLsbD 3
                               ownerOnly := new.getLsbD 4, modKnown := new.getLsbD 6 } ∧
        ∀ e ∈ t.cache.tail, e ∈ u.cache ∧ ∀ a : Eva, evaPage a = w.walk.page → e.covers w.walk.sid a = false)

/-- The steps the engine takes by itself at their moment: the end of an invalidation, the entry to DOZE and the wake
after a resolved WAIT (R143, R181, R183). -/
def Obligations.EngineStepsTakeTheirMoment : Prop :=
  ∀ s : State,
    (s.nextDue = some .invalDone → exec .invalDone s = .next { s with
      inval := { s.inval with busy := false, requestsDone := s.inval.requestsDone + 1#8 }
      glbPending := s.glbPending ||| 0x1#4 }) ∧
    (s.nextDue = some .dozeEntered →
      exec .dozeEntered s = .next { s with power := .doze, glbPending := s.glbPending ||| 0x4#4 }) ∧
    (s.nextDue = some .wake → exec .wake s = .next { s with
      power := .run, dozeReq := false, glbPending := s.glbPending ||| 0x8#4
      agenda := releaseOwed s ++ s.agenda })

/-! ## Addresses, shaping and the digest (chapters 5 and 6) -/

/-- Offsets by mode (R78 to R81): LINEAR and INDEXED step by the element size and by the pointer width, downward for
DESC; STRIDED steps by the stride; BLOCKED by rows of run elements, pitch bytes apart. Placement: confined, the address
lies in the aligned window that holds BASE and is congruent to BASE plus the offset; unconfined, it is BASE plus the
offset (R82, R83). The portions of an item that lies in the 40-bit space: one or two, consecutive (the first starts at
the item, the second where the first ends), covering the item's bytes exactly, none crossing a 4 KiB boundary, two only
where the item crosses one (R87, R88). -/
def Obligations.AddressesStayInTheirWindowAndPortionsInTheirPage : Prop :=
  (∀ (w : BitVec 128) (e i : Nat),
    let base : Int := ((w.extractLsb' 0 40).toNat : Int)
    let mode := w.extractLsb' 40 2
    let sign : Int := if w.extractLsb' 42 2 = 1#2 then -1 else 1
    let step : Int := (w.extractLsb' 64 32).toInt
    let run := (w.extractLsb' 96 16).toNat
    ((mode = 0#2 → walkOffset w e i = sign * ((i * e : Nat) : Int)) ∧
      (mode = 1#2 → walkOffset w e i = (i : Int) * step) ∧
      (mode = 2#2 → walkOffset w e i = ((i / run : Nat) : Int) * step + ((i % run * e : Nat) : Int)) ∧
      ∀ j ∈ [(0#2, 2), (1#2, 4), (2#2, 8)], mode = 3#2 → w.extractLsb' 44 2 = j.1 →
        walkOffset w e i = sign * ((i * j.2 : Nat) : Int)) ∧
    (walkConfine w = 0#8 → placedAddress w e i = base + walkOffset w e i) ∧
    ∀ j ∈ [(1, 8), (2, 12), (3, 16), (4, 20), (5, 24)], walkConfine w = BitVec.ofNat 8 j.1 →
      base - base % 2 ^ j.2 ≤ placedAddress w e i ∧
      placedAddress w e i ≤ base - base % 2 ^ j.2 + 2 ^ j.2 - 1 ∧
      (placedAddress w e i - (base + walkOffset w e i)) % 2 ^ j.2 = 0) ∧
  (∀ a size : Nat, 1 ≤ size → size ≤ 8 → a + size ≤ 2 ^ 40 →
    let ps := portionsOf a size
    (ps.map (·.len)).sum = size ∧
    (∀ p ∈ ps, 1 ≤ p.len ∧ p.eva.toNat = a + p.off ∧ p.eva.toNat % 4096 + p.len ≤ 4096) ∧
    (ps.length = if a / 4096 = (a + size - 1) / 4096 then 1 else 2) ∧
    (ps.head?.map (·.off)) = some 0 ∧
    ∀ p q, ps = [p, q] → q.off = p.len)

/-- R98 whole: a SCALE of 0 or more multiplies exactly, whatever ROUND holds, and raises no INEXACT; a SCALE of 0 with
equal formats passes every value through unchanged, whatever the swaps. And the steps around it: the bytes of the
element, reversed by SRC_SWAP, are read as a little-endian integer of the source format (R97), scaled, fitted, and
written little-endian, reversed by DST_SWAP; INEXACT comes from the scaling and the range flag from the range step (R96,
R101). -/
def Obligations.NonNegativeScaleIsExact : Prop :=
  (∀ (round : BitVec 2) (scale x : Int), 0 ≤ scale →
    scaleValue round scale x = (x * 2 ^ scale.toNat, false)) ∧
  (∀ (o : BitVec 512) (raw : BitVec 64), ordScale o = 0 → ordSrcFmt o = ordDstFmt o → (ordSrcFmt o).toNat < 8 →
    sourceValue (ordDstFmt o) (ordDstSwap o) (shapeElement o raw).bytes =
      sourceValue (ordSrcFmt o) (ordSrcSwap o) raw ∧
    (ordSrcSwap o = ordDstSwap o →
      (shapeElement o raw).bytes = BitVec.ofNat 64 (raw.toNat % 2 ^ (8 * fmtSize (ordSrcFmt o)))) ∧
    (shapeElement o raw).flags = { inexact := false, saturated := false, wrapped := false }) ∧
  (∀ (fmt : BitVec 4) (swap : Bool) (raw : BitVec 64), fmt.toNat < 8 →
    let n := 2 ^ (fmt.toNat / 2)
    let v := (elementBytes raw.toNat n swap).toNat
    sourceValue fmt swap raw =
      if fmt.toNat % 2 = 1 ∧ 2 ^ (8 * n - 1) ≤ v then (v : Int) - 2 ^ (8 * n) else (v : Int)) ∧
  (∀ (o : BitVec 512) (raw : BitVec 64), (ordDstFmt o).toNat < 8 →
    let n := 2 ^ ((ordDstFmt o).toNat / 2)
    let scaled := scaleValue (ordRound o) (ordScale o) (sourceValue (ordSrcFmt o) (ordSrcSwap o) raw)
    let fitted := rangeValue (ordDstFmt o) (ordSaturate o) scaled.1
    shapeElement o raw =
      { bytes := elementBytes (fitted.1 % 2 ^ (8 * n)).toNat n (ordDstSwap o)
        flags := { inexact := scaled.2, saturated := fitted.2.saturated, wrapped := fitted.2.wrapped } })

/-- R99 whole: a negative SCALE −k divides by 2^k and rounds by ROUND; INEXACT is raised exactly when the division
leaves a remainder; for every value of a source format the result lies within −2^63 to 2^64 − 1. -/
def Obligations.NegativeScaleRoundsByMode : Prop :=
  ∀ (round : BitVec 2) (x : Int) (k : Nat), 1 ≤ k →
    let y := (scaleValue round (-(k : Int)) x).1
    let d : Int := 2 ^ k
    ((scaleValue round (-(k : Int)) x).2 = true ↔ ¬ d ∣ x) ∧
    (d ∣ x → y * d = x) ∧
    (round = 0#2 → 2 * |y * d - x| ≤ d ∧ (2 * |y * d - x| = d → y % 2 = 0)) ∧
    (round = 1#2 → |y * d| ≤ |x| ∧ |x| < |y * d| + d ∧ 0 ≤ y * x) ∧
    (round = 2#2 → y * d ≤ x ∧ x < y * d + d) ∧
    (round = 3#2 → x ≤ y * d ∧ y * d < x + d) ∧
    (-(2 ^ 63) ≤ x → x < 2 ^ 64 → -(2 ^ 63) ≤ y ∧ y ≤ 2 ^ 64 - 1)

/-- R100 whole: a value in the destination range stays and raises no flag; outside it, saturation takes the nearer
bound and raises SATURATED, wrapping takes the value of the range congruent modulo 2^(8·Ed) and raises WRAPPED. -/
def Obligations.RangeStepSaturatesOrWraps : Prop :=
  ∀ (fmt : BitVec 4) (sat : Bool) (y : Int), fmt.toNat < 8 →
    let m : Int := 2 ^ (8 * fmtSize fmt)
    let lo : Int := if fmtSigned fmt then -(m / 2) else 0
    let hi : Int := if fmtSigned fmt then m / 2 - 1 else m - 1
    let z := (rangeValue fmt sat y).1
    let f := (rangeValue fmt sat y).2
    (lo ≤ y → y ≤ hi → z = y ∧ f = { inexact := false, saturated := false, wrapped := false }) ∧
    (sat = true → y < lo → z = lo ∧ f = { inexact := false, saturated := true, wrapped := false }) ∧
    (sat = true → hi < y → z = hi ∧ f = { inexact := false, saturated := true, wrapped := false }) ∧
    (sat = false → y < lo ∨ hi < y →
      (lo ≤ z ∧ z ≤ hi ∧ (z - y) % m = 0) ∧ f = { inexact := false, saturated := false, wrapped := true })

/-! ## What every command keeps -/

/-- No command breaks the refusal log's condition: VALID is 1 exactly when COUNT is not 0 (R14). -/
def Obligations.EveryCommandKeepsTheRefusalLogCondition : Prop :=
  ∀ (i : Instr) (s t : State), Safety.refusalLogOk s = true → exec i s = .next t → Safety.refusalLogOk t = true

/-- No command breaks the doze condition: DOZE_REQ is 1 exactly in DOZE_ENTRY and DOZE (R181). -/
def Obligations.EveryCommandKeepsTheDozeCondition : Prop :=
  ∀ (i : Instr) (s t : State), Safety.dozeOk s = true → exec i s = .next t → Safety.dozeOk t = true

/-- No command raises a pending flag in a state that does not admit it (R19), nor lets the coalescing timer run at a
counter of 0 or the counter pass 254 (R173, R174). -/
def Obligations.EveryCommandKeepsThePendingFlagsCondition : Prop :=
  ∀ (i : Instr) (s t : State), exec i s = .next t →
    (Safety.pendingFlagsOk s = true → Safety.pendingFlagsOk t = true) ∧
    (Safety.coalescingOk s = true → Safety.coalescingOk t = true)

/-- No command breaks the LAP relation: in a channel neither DISABLED nor CLEARING, LAP is 1 exactly while CQ_TAIL div Nc is
even (R52). Lanes and channels agree in every state a run reaches; that is the next statement. -/
def Obligations.EveryCommandKeepsTheLapRelation : Prop :=
  ∀ (i : Instr) (s t : State), Safety.lanesOk s = true → Safety.lapOk s = true → exec i s = .next t →
    Safety.lapOk t = true

/-- No command breaks the agreement of lanes and channels: a RUNNING channel holds a lane outside a soft reset, and a
busy lane serves one RUNNING or CLEARING channel (R19, R22); nor with it that of channels and the Synchroniser: a wait
entry exactly in SYNC_WAIT (R162, R166). No command gives a lane more than 8 transactions outstanding (R117), or a
channel or a lane a digest sum of 65519 or more (R106). -/
def Obligations.EveryCommandKeepsLanesAndChannelsTogether : Prop :=
  ∀ (i : Instr) (s t : State), exec i s = .next t →
    (Safety.lanesOk s = true → Safety.lanesOk t = true) ∧
    (Safety.lanesOk s = true → Safety.waitsOk s = true → Safety.waitsOk t = true) ∧
    (Safety.laneTransactionsOk s = true → Safety.laneTransactionsOk t = true) ∧
    (Safety.digestsOk s = true → Safety.digestsOk t = true)

/-- No command overfills the translation cache or makes two of its entries overlap (R136, R138). -/
def Obligations.EveryCommandKeepsTheCacheFreeOfOverlaps : Prop :=
  ∀ (i : Instr) (s t : State), Safety.cacheOk s = true → exec i s = .next t → Safety.cacheOk t = true

/-- The reset state meets every one of these conditions. -/
def Obligations.ResetStateIsSafe : Prop := Safety.safe State.reset = true
end

