-- ==== Sys2Proof/Laws/State.lean ====
section
/-! SUPPORT. One lemma per field of State and per update of it: an update of one part leaves every other field as it
was, and reads back what it wrote. No later proof unfolds a record update. -/

namespace Sys2Proof.Machine

/-! ## Reading back -/

@[simp] theorem chan_setChan_same (s : State) (c : ChanNo) (x : Channel) : (s.setChan c x).chan c = x := by
  simp [State.chan, State.setChan]

theorem chan_setChan_ne (s : State) {c d : ChanNo} (x : Channel) (h : d ≠ c) : (s.setChan c x).chan d = s.chan d := by
  simp only [State.chan, State.setChan]
  exact Vector.getElem_set_ne _ _ (fun e => h (Fin.ext e.symm))

@[simp] theorem lane_setLane_same (s : State) (l : LaneNo) (x : Lane) : (s.setLane l x).lane l = x := by
  simp [State.lane, State.setLane]

theorem lane_setLane_ne (s : State) {l m : LaneNo} (x : Lane) (h : m ≠ l) : (s.setLane l x).lane m = s.lane m := by
  simp only [State.lane, State.setLane]
  exact Vector.getElem_set_ne _ _ (fun e => h (Fin.ext e.symm))

@[simp] theorem space_setSpace_same (s : State) (n : SpaceNo) (x : Space) : (s.setSpace n x).space n = x := by
  simp [State.space, State.setSpace]

theorem space_setSpace_ne (s : State) {n m : SpaceNo} (x : Space) (h : m ≠ n) :
    (s.setSpace n x).space m = s.space m := by
  simp only [State.space, State.setSpace]
  exact Vector.getElem_set_ne _ _ (fun e => h (Fin.ext e.symm))

@[simp] theorem chan_modChan_same (s : State) (c : ChanNo) (f : Channel → Channel) :
    (s.modChan c f).chan c = f (s.chan c) := chan_setChan_same s c _

theorem chan_modChan_ne (s : State) {c d : ChanNo} (f : Channel → Channel) (h : d ≠ c) :
    (s.modChan c f).chan d = s.chan d := chan_setChan_ne s _ h

@[simp] theorem lane_modLane_same (s : State) (l : LaneNo) (f : Lane → Lane) :
    (s.modLane l f).lane l = f (s.lane l) := lane_setLane_same s l _

theorem lane_modLane_ne (s : State) {l m : LaneNo} (f : Lane → Lane) (h : m ≠ l) :
    (s.modLane l f).lane m = s.lane m := lane_setLane_ne s _ h

@[simp] theorem chan_setLane (s : State) (l : LaneNo) (x : Lane) (c : ChanNo) : (s.setLane l x).chan c = s.chan c := rfl
@[simp] theorem chan_modLane (s : State) (l : LaneNo) (f : Lane → Lane) (c : ChanNo) :
    (s.modLane l f).chan c = s.chan c := rfl
@[simp] theorem chan_setSpace (s : State) (n : SpaceNo) (x : Space) (c : ChanNo) :
    (s.setSpace n x).chan c = s.chan c := rfl
@[simp] theorem chan_callFor (s : State) (fs : List FollowOn) (c : ChanNo) : (s.callFor fs).chan c = s.chan c := rfl
@[simp] theorem chan_respond (s : State) (p : PortResponse) (c : ChanNo) : (s.respond p).chan c = s.chan c := rfl
@[simp] theorem lane_setChan (s : State) (c : ChanNo) (x : Channel) (l : LaneNo) : (s.setChan c x).lane l = s.lane l := rfl
@[simp] theorem lane_modChan (s : State) (c : ChanNo) (f : Channel → Channel) (l : LaneNo) :
    (s.modChan c f).lane l = s.lane l := rfl
@[simp] theorem lane_setSpace (s : State) (n : SpaceNo) (x : Space) (l : LaneNo) :
    (s.setSpace n x).lane l = s.lane l := rfl
@[simp] theorem lane_callFor (s : State) (fs : List FollowOn) (l : LaneNo) : (s.callFor fs).lane l = s.lane l := rfl
@[simp] theorem lane_respond (s : State) (p : PortResponse) (l : LaneNo) : (s.respond p).lane l = s.lane l := rfl
@[simp] theorem space_setChan (s : State) (c : ChanNo) (x : Channel) (n : SpaceNo) :
    (s.setChan c x).space n = s.space n := rfl
@[simp] theorem space_modChan (s : State) (c : ChanNo) (f : Channel → Channel) (n : SpaceNo) :
    (s.modChan c f).space n = s.space n := rfl
@[simp] theorem space_setLane (s : State) (l : LaneNo) (x : Lane) (n : SpaceNo) :
    (s.setLane l x).space n = s.space n := rfl
@[simp] theorem space_modLane (s : State) (l : LaneNo) (f : Lane → Lane) (n : SpaceNo) :
    (s.modLane l f).space n = s.space n := rfl
@[simp] theorem space_callFor (s : State) (fs : List FollowOn) (n : SpaceNo) : (s.callFor fs).space n = s.space n := rfl
@[simp] theorem space_respond (s : State) (p : PortResponse) (n : SpaceNo) : (s.respond p).space n = s.space n := rfl

@[simp] theorem setChan_setChan (s : State) (c : ChanNo) (x y : Channel) :
    (s.setChan c x).setChan c y = s.setChan c y := by simp [State.setChan]

@[simp] theorem modChan_modChan (s : State) (c : ChanNo) (f g : Channel → Channel) :
    (s.modChan c f).modChan c g = s.modChan c fun ch => g (f ch) := by simp [State.modChan]

@[simp] theorem setLane_setLane (s : State) (l : LaneNo) (x y : Lane) :
    (s.setLane l x).setLane l y = s.setLane l y := by simp [State.setLane]

/-! ## setChan -/

@[simp] theorem setChan_pending (s : State) (c : ChanNo) (x : Channel) : (s.setChan c x).pending = s.pending := rfl
@[simp] theorem setChan_agenda (s : State) (c : ChanNo) (x : Channel) : (s.setChan c x).agenda = s.agenda := rfl
@[simp] theorem setChan_resetN (s : State) (c : ChanNo) (x : Channel) : (s.setChan c x).resetN = s.resetN := rfl
@[simp] theorem setChan_port (s : State) (c : ChanNo) (x : Channel) : (s.setChan c x).port = s.port := rfl
@[simp] theorem setChan_power (s : State) (c : ChanNo) (x : Channel) : (s.setChan c x).power = s.power := rfl
@[simp] theorem setChan_resetCause (s : State) (c : ChanNo) (x : Channel) : (s.setChan c x).resetCause = s.resetCause := rfl
@[simp] theorem setChan_dozeReq (s : State) (c : ChanNo) (x : Channel) : (s.setChan c x).dozeReq = s.dozeReq := rfl
@[simp] theorem setChan_autoWake (s : State) (c : ChanNo) (x : Channel) : (s.setChan c x).autoWake = s.autoWake := rfl
@[simp] theorem setChan_tickDiv (s : State) (c : ChanNo) (x : Channel) : (s.setChan c x).tickDiv = s.tickDiv := rfl
@[simp] theorem setChan_tick (s : State) (c : ChanNo) (x : Channel) : (s.setChan c x).tick = s.tick := rfl
@[simp] theorem setChan_tickCount (s : State) (c : ChanNo) (x : Channel) : (s.setChan c x).tickCount = s.tickCount := rfl
@[simp] theorem setChan_busTimeout (s : State) (c : ChanNo) (x : Channel) : (s.setChan c x).busTimeout = s.busTimeout := rfl
@[simp] theorem setChan_laneEnable (s : State) (c : ChanNo) (x : Channel) : (s.setChan c x).laneEnable = s.laneEnable := rfl
@[simp] theorem setChan_agingLimit (s : State) (c : ChanNo) (x : Channel) : (s.setChan c x).agingLimit = s.agingLimit := rfl
@[simp] theorem setChan_roundRobin (s : State) (c : ChanNo) (x : Channel) : (s.setChan c x).roundRobin = s.roundRobin := rfl
@[simp] theorem setChan_staging (s : State) (c : ChanNo) (x : Channel) : (s.setChan c x).staging = s.staging := rfl
@[simp] theorem setChan_refusalLog (s : State) (c : ChanNo) (x : Channel) : (s.setChan c x).refusalLog = s.refusalLog := rfl
@[simp] theorem setChan_glbPending (s : State) (c : ChanNo) (x : Channel) : (s.setChan c x).glbPending = s.glbPending := rfl
@[simp] theorem setChan_glbMask (s : State) (c : ChanNo) (x : Channel) : (s.setChan c x).glbMask = s.glbMask := rfl
@[simp] theorem setChan_glbRoute (s : State) (c : ChanNo) (x : Channel) : (s.setChan c x).glbRoute = s.glbRoute := rfl
@[simp] theorem setChan_spaces (s : State) (c : ChanNo) (x : Channel) : (s.setChan c x).spaces = s.spaces := rfl
@[simp] theorem setChan_cache (s : State) (c : ChanNo) (x : Channel) : (s.setChan c x).cache = s.cache := rfl
@[simp] theorem setChan_walkQueue (s : State) (c : ChanNo) (x : Channel) : (s.setChan c x).walkQueue = s.walkQueue := rfl
@[simp] theorem setChan_walker (s : State) (c : ChanNo) (x : Channel) : (s.setChan c x).walker = s.walker := rfl
@[simp] theorem setChan_inval (s : State) (c : ChanNo) (x : Channel) : (s.setChan c x).inval = s.inval := rfl
@[simp] theorem setChan_lanes (s : State) (c : ChanNo) (x : Channel) : (s.setChan c x).lanes = s.lanes := rfl

/-! ## setLane -/

@[simp] theorem setLane_pending (s : State) (l : LaneNo) (x : Lane) : (s.setLane l x).pending = s.pending := rfl
@[simp] theorem setLane_agenda (s : State) (l : LaneNo) (x : Lane) : (s.setLane l x).agenda = s.agenda := rfl
@[simp] theorem setLane_resetN (s : State) (l : LaneNo) (x : Lane) : (s.setLane l x).resetN = s.resetN := rfl
@[simp] theorem setLane_port (s : State) (l : LaneNo) (x : Lane) : (s.setLane l x).port = s.port := rfl
@[simp] theorem setLane_power (s : State) (l : LaneNo) (x : Lane) : (s.setLane l x).power = s.power := rfl
@[simp] theorem setLane_resetCause (s : State) (l : LaneNo) (x : Lane) : (s.setLane l x).resetCause = s.resetCause := rfl
@[simp] theorem setLane_dozeReq (s : State) (l : LaneNo) (x : Lane) : (s.setLane l x).dozeReq = s.dozeReq := rfl
@[simp] theorem setLane_autoWake (s : State) (l : LaneNo) (x : Lane) : (s.setLane l x).autoWake = s.autoWake := rfl
@[simp] theorem setLane_tickDiv (s : State) (l : LaneNo) (x : Lane) : (s.setLane l x).tickDiv = s.tickDiv := rfl
@[simp] theorem setLane_tick (s : State) (l : LaneNo) (x : Lane) : (s.setLane l x).tick = s.tick := rfl
@[simp] theorem setLane_tickCount (s : State) (l : LaneNo) (x : Lane) : (s.setLane l x).tickCount = s.tickCount := rfl
@[simp] theorem setLane_busTimeout (s : State) (l : LaneNo) (x : Lane) : (s.setLane l x).busTimeout = s.busTimeout := rfl
@[simp] theorem setLane_laneEnable (s : State) (l : LaneNo) (x : Lane) : (s.setLane l x).laneEnable = s.laneEnable := rfl
@[simp] theorem setLane_agingLimit (s : State) (l : LaneNo) (x : Lane) : (s.setLane l x).agingLimit = s.agingLimit := rfl
@[simp] theorem setLane_roundRobin (s : State) (l : LaneNo) (x : Lane) : (s.setLane l x).roundRobin = s.roundRobin := rfl
@[simp] theorem setLane_staging (s : State) (l : LaneNo) (x : Lane) : (s.setLane l x).staging = s.staging := rfl
@[simp] theorem setLane_refusalLog (s : State) (l : LaneNo) (x : Lane) : (s.setLane l x).refusalLog = s.refusalLog := rfl
@[simp] theorem setLane_glbPending (s : State) (l : LaneNo) (x : Lane) : (s.setLane l x).glbPending = s.glbPending := rfl
@[simp] theorem setLane_glbMask (s : State) (l : LaneNo) (x : Lane) : (s.setLane l x).glbMask = s.glbMask := rfl
@[simp] theorem setLane_glbRoute (s : State) (l : LaneNo) (x : Lane) : (s.setLane l x).glbRoute = s.glbRoute := rfl
@[simp] theorem setLane_spaces (s : State) (l : LaneNo) (x : Lane) : (s.setLane l x).spaces = s.spaces := rfl
@[simp] theorem setLane_cache (s : State) (l : LaneNo) (x : Lane) : (s.setLane l x).cache = s.cache := rfl
@[simp] theorem setLane_walkQueue (s : State) (l : LaneNo) (x : Lane) : (s.setLane l x).walkQueue = s.walkQueue := rfl
@[simp] theorem setLane_walker (s : State) (l : LaneNo) (x : Lane) : (s.setLane l x).walker = s.walker := rfl
@[simp] theorem setLane_inval (s : State) (l : LaneNo) (x : Lane) : (s.setLane l x).inval = s.inval := rfl
@[simp] theorem setLane_channels (s : State) (l : LaneNo) (x : Lane) : (s.setLane l x).channels = s.channels := rfl

/-! ## setSpace -/

@[simp] theorem setSpace_pending (s : State) (n : SpaceNo) (x : Space) : (s.setSpace n x).pending = s.pending := rfl
@[simp] theorem setSpace_agenda (s : State) (n : SpaceNo) (x : Space) : (s.setSpace n x).agenda = s.agenda := rfl
@[simp] theorem setSpace_resetN (s : State) (n : SpaceNo) (x : Space) : (s.setSpace n x).resetN = s.resetN := rfl
@[simp] theorem setSpace_port (s : State) (n : SpaceNo) (x : Space) : (s.setSpace n x).port = s.port := rfl
@[simp] theorem setSpace_power (s : State) (n : SpaceNo) (x : Space) : (s.setSpace n x).power = s.power := rfl
@[simp] theorem setSpace_resetCause (s : State) (n : SpaceNo) (x : Space) : (s.setSpace n x).resetCause = s.resetCause := rfl
@[simp] theorem setSpace_dozeReq (s : State) (n : SpaceNo) (x : Space) : (s.setSpace n x).dozeReq = s.dozeReq := rfl
@[simp] theorem setSpace_autoWake (s : State) (n : SpaceNo) (x : Space) : (s.setSpace n x).autoWake = s.autoWake := rfl
@[simp] theorem setSpace_tickDiv (s : State) (n : SpaceNo) (x : Space) : (s.setSpace n x).tickDiv = s.tickDiv := rfl
@[simp] theorem setSpace_tick (s : State) (n : SpaceNo) (x : Space) : (s.setSpace n x).tick = s.tick := rfl
@[simp] theorem setSpace_tickCount (s : State) (n : SpaceNo) (x : Space) : (s.setSpace n x).tickCount = s.tickCount := rfl
@[simp] theorem setSpace_busTimeout (s : State) (n : SpaceNo) (x : Space) : (s.setSpace n x).busTimeout = s.busTimeout := rfl
@[simp] theorem setSpace_laneEnable (s : State) (n : SpaceNo) (x : Space) : (s.setSpace n x).laneEnable = s.laneEnable := rfl
@[simp] theorem setSpace_agingLimit (s : State) (n : SpaceNo) (x : Space) : (s.setSpace n x).agingLimit = s.agingLimit := rfl
@[simp] theorem setSpace_roundRobin (s : State) (n : SpaceNo) (x : Space) : (s.setSpace n x).roundRobin = s.roundRobin := rfl
@[simp] theorem setSpace_staging (s : State) (n : SpaceNo) (x : Space) : (s.setSpace n x).staging = s.staging := rfl
@[simp] theorem setSpace_refusalLog (s : State) (n : SpaceNo) (x : Space) : (s.setSpace n x).refusalLog = s.refusalLog := rfl
@[simp] theorem setSpace_glbPending (s : State) (n : SpaceNo) (x : Space) : (s.setSpace n x).glbPending = s.glbPending := rfl
@[simp] theorem setSpace_glbMask (s : State) (n : SpaceNo) (x : Space) : (s.setSpace n x).glbMask = s.glbMask := rfl
@[simp] theorem setSpace_glbRoute (s : State) (n : SpaceNo) (x : Space) : (s.setSpace n x).glbRoute = s.glbRoute := rfl
@[simp] theorem setSpace_cache (s : State) (n : SpaceNo) (x : Space) : (s.setSpace n x).cache = s.cache := rfl
@[simp] theorem setSpace_walkQueue (s : State) (n : SpaceNo) (x : Space) : (s.setSpace n x).walkQueue = s.walkQueue := rfl
@[simp] theorem setSpace_walker (s : State) (n : SpaceNo) (x : Space) : (s.setSpace n x).walker = s.walker := rfl
@[simp] theorem setSpace_inval (s : State) (n : SpaceNo) (x : Space) : (s.setSpace n x).inval = s.inval := rfl
@[simp] theorem setSpace_channels (s : State) (n : SpaceNo) (x : Space) : (s.setSpace n x).channels = s.channels := rfl
@[simp] theorem setSpace_lanes (s : State) (n : SpaceNo) (x : Space) : (s.setSpace n x).lanes = s.lanes := rfl

/-! ## modChan -/

@[simp] theorem modChan_pending (s : State) (c : ChanNo) (f : Channel → Channel) : (s.modChan c f).pending = s.pending := rfl
@[simp] theorem modChan_agenda (s : State) (c : ChanNo) (f : Channel → Channel) : (s.modChan c f).agenda = s.agenda := rfl
@[simp] theorem modChan_resetN (s : State) (c : ChanNo) (f : Channel → Channel) : (s.modChan c f).resetN = s.resetN := rfl
@[simp] theorem modChan_port (s : State) (c : ChanNo) (f : Channel → Channel) : (s.modChan c f).port = s.port := rfl
@[simp] theorem modChan_power (s : State) (c : ChanNo) (f : Channel → Channel) : (s.modChan c f).power = s.power := rfl
@[simp] theorem modChan_resetCause (s : State) (c : ChanNo) (f : Channel → Channel) : (s.modChan c f).resetCause = s.resetCause := rfl
@[simp] theorem modChan_dozeReq (s : State) (c : ChanNo) (f : Channel → Channel) : (s.modChan c f).dozeReq = s.dozeReq := rfl
@[simp] theorem modChan_autoWake (s : State) (c : ChanNo) (f : Channel → Channel) : (s.modChan c f).autoWake = s.autoWake := rfl
@[simp] theorem modChan_tickDiv (s : State) (c : ChanNo) (f : Channel → Channel) : (s.modChan c f).tickDiv = s.tickDiv := rfl
@[simp] theorem modChan_tick (s : State) (c : ChanNo) (f : Channel → Channel) : (s.modChan c f).tick = s.tick := rfl
@[simp] theorem modChan_tickCount (s : State) (c : ChanNo) (f : Channel → Channel) : (s.modChan c f).tickCount = s.tickCount := rfl
@[simp] theorem modChan_busTimeout (s : State) (c : ChanNo) (f : Channel → Channel) : (s.modChan c f).busTimeout = s.busTimeout := rfl
@[simp] theorem modChan_laneEnable (s : State) (c : ChanNo) (f : Channel → Channel) : (s.modChan c f).laneEnable = s.laneEnable := rfl
@[simp] theorem modChan_agingLimit (s : State) (c : ChanNo) (f : Channel → Channel) : (s.modChan c f).agingLimit = s.agingLimit := rfl
@[simp] theorem modChan_roundRobin (s : State) (c : ChanNo) (f : Channel → Channel) : (s.modChan c f).roundRobin = s.roundRobin := rfl
@[simp] theorem modChan_staging (s : State) (c : ChanNo) (f : Channel → Channel) : (s.modChan c f).staging = s.staging := rfl
@[simp] theorem modChan_refusalLog (s : State) (c : ChanNo) (f : Channel → Channel) : (s.modChan c f).refusalLog = s.refusalLog := rfl
@[simp] theorem modChan_glbPending (s : State) (c : ChanNo) (f : Channel → Channel) : (s.modChan c f).glbPending = s.glbPending := rfl
@[simp] theorem modChan_glbMask (s : State) (c : ChanNo) (f : Channel → Channel) : (s.modChan c f).glbMask = s.glbMask := rfl
@[simp] theorem modChan_glbRoute (s : State) (c : ChanNo) (f : Channel → Channel) : (s.modChan c f).glbRoute = s.glbRoute := rfl
@[simp] theorem modChan_spaces (s : State) (c : ChanNo) (f : Channel → Channel) : (s.modChan c f).spaces = s.spaces := rfl
@[simp] theorem modChan_cache (s : State) (c : ChanNo) (f : Channel → Channel) : (s.modChan c f).cache = s.cache := rfl
@[simp] theorem modChan_walkQueue (s : State) (c : ChanNo) (f : Channel → Channel) : (s.modChan c f).walkQueue = s.walkQueue := rfl
@[simp] theorem modChan_walker (s : State) (c : ChanNo) (f : Channel → Channel) : (s.modChan c f).walker = s.walker := rfl
@[simp] theorem modChan_inval (s : State) (c : ChanNo) (f : Channel → Channel) : (s.modChan c f).inval = s.inval := rfl
@[simp] theorem modChan_lanes (s : State) (c : ChanNo) (f : Channel → Channel) : (s.modChan c f).lanes = s.lanes := rfl

/-! ## modLane -/

@[simp] theorem modLane_pending (s : State) (l : LaneNo) (f : Lane → Lane) : (s.modLane l f).pending = s.pending := rfl
@[simp] theorem modLane_agenda (s : State) (l : LaneNo) (f : Lane → Lane) : (s.modLane l f).agenda = s.agenda := rfl
@[simp] theorem modLane_resetN (s : State) (l : LaneNo) (f : Lane → Lane) : (s.modLane l f).resetN = s.resetN := rfl
@[simp] theorem modLane_port (s : State) (l : LaneNo) (f : Lane → Lane) : (s.modLane l f).port = s.port := rfl
@[simp] theorem modLane_power (s : State) (l : LaneNo) (f : Lane → Lane) : (s.modLane l f).power = s.power := rfl
@[simp] theorem modLane_resetCause (s : State) (l : LaneNo) (f : Lane → Lane) : (s.modLane l f).resetCause = s.resetCause := rfl
@[simp] theorem modLane_dozeReq (s : State) (l : LaneNo) (f : Lane → Lane) : (s.modLane l f).dozeReq = s.dozeReq := rfl
@[simp] theorem modLane_autoWake (s : State) (l : LaneNo) (f : Lane → Lane) : (s.modLane l f).autoWake = s.autoWake := rfl
@[simp] theorem modLane_tickDiv (s : State) (l : LaneNo) (f : Lane → Lane) : (s.modLane l f).tickDiv = s.tickDiv := rfl
@[simp] theorem modLane_tick (s : State) (l : LaneNo) (f : Lane → Lane) : (s.modLane l f).tick = s.tick := rfl
@[simp] theorem modLane_tickCount (s : State) (l : LaneNo) (f : Lane → Lane) : (s.modLane l f).tickCount = s.tickCount := rfl
@[simp] theorem modLane_busTimeout (s : State) (l : LaneNo) (f : Lane → Lane) : (s.modLane l f).busTimeout = s.busTimeout := rfl
@[simp] theorem modLane_laneEnable (s : State) (l : LaneNo) (f : Lane → Lane) : (s.modLane l f).laneEnable = s.laneEnable := rfl
@[simp] theorem modLane_agingLimit (s : State) (l : LaneNo) (f : Lane → Lane) : (s.modLane l f).agingLimit = s.agingLimit := rfl
@[simp] theorem modLane_roundRobin (s : State) (l : LaneNo) (f : Lane → Lane) : (s.modLane l f).roundRobin = s.roundRobin := rfl
@[simp] theorem modLane_staging (s : State) (l : LaneNo) (f : Lane → Lane) : (s.modLane l f).staging = s.staging := rfl
@[simp] theorem modLane_refusalLog (s : State) (l : LaneNo) (f : Lane → Lane) : (s.modLane l f).refusalLog = s.refusalLog := rfl
@[simp] theorem modLane_glbPending (s : State) (l : LaneNo) (f : Lane → Lane) : (s.modLane l f).glbPending = s.glbPending := rfl
@[simp] theorem modLane_glbMask (s : State) (l : LaneNo) (f : Lane → Lane) : (s.modLane l f).glbMask = s.glbMask := rfl
@[simp] theorem modLane_glbRoute (s : State) (l : LaneNo) (f : Lane → Lane) : (s.modLane l f).glbRoute = s.glbRoute := rfl
@[simp] theorem modLane_spaces (s : State) (l : LaneNo) (f : Lane → Lane) : (s.modLane l f).spaces = s.spaces := rfl
@[simp] theorem modLane_cache (s : State) (l : LaneNo) (f : Lane → Lane) : (s.modLane l f).cache = s.cache := rfl
@[simp] theorem modLane_walkQueue (s : State) (l : LaneNo) (f : Lane → Lane) : (s.modLane l f).walkQueue = s.walkQueue := rfl
@[simp] theorem modLane_walker (s : State) (l : LaneNo) (f : Lane → Lane) : (s.modLane l f).walker = s.walker := rfl
@[simp] theorem modLane_inval (s : State) (l : LaneNo) (f : Lane → Lane) : (s.modLane l f).inval = s.inval := rfl
@[simp] theorem modLane_channels (s : State) (l : LaneNo) (f : Lane → Lane) : (s.modLane l f).channels = s.channels := rfl

/-! ## callFor -/

@[simp] theorem callFor_pending (s : State) (fs : List FollowOn) : (s.callFor fs).pending = s.pending := rfl
@[simp] theorem callFor_resetN (s : State) (fs : List FollowOn) : (s.callFor fs).resetN = s.resetN := rfl
@[simp] theorem callFor_port (s : State) (fs : List FollowOn) : (s.callFor fs).port = s.port := rfl
@[simp] theorem callFor_power (s : State) (fs : List FollowOn) : (s.callFor fs).power = s.power := rfl
@[simp] theorem callFor_resetCause (s : State) (fs : List FollowOn) : (s.callFor fs).resetCause = s.resetCause := rfl
@[simp] theorem callFor_dozeReq (s : State) (fs : List FollowOn) : (s.callFor fs).dozeReq = s.dozeReq := rfl
@[simp] theorem callFor_autoWake (s : State) (fs : List FollowOn) : (s.callFor fs).autoWake = s.autoWake := rfl
@[simp] theorem callFor_tickDiv (s : State) (fs : List FollowOn) : (s.callFor fs).tickDiv = s.tickDiv := rfl
@[simp] theorem callFor_tick (s : State) (fs : List FollowOn) : (s.callFor fs).tick = s.tick := rfl
@[simp] theorem callFor_tickCount (s : State) (fs : List FollowOn) : (s.callFor fs).tickCount = s.tickCount := rfl
@[simp] theorem callFor_busTimeout (s : State) (fs : List FollowOn) : (s.callFor fs).busTimeout = s.busTimeout := rfl
@[simp] theorem callFor_laneEnable (s : State) (fs : List FollowOn) : (s.callFor fs).laneEnable = s.laneEnable := rfl
@[simp] theorem callFor_agingLimit (s : State) (fs : List FollowOn) : (s.callFor fs).agingLimit = s.agingLimit := rfl
@[simp] theorem callFor_roundRobin (s : State) (fs : List FollowOn) : (s.callFor fs).roundRobin = s.roundRobin := rfl
@[simp] theorem callFor_staging (s : State) (fs : List FollowOn) : (s.callFor fs).staging = s.staging := rfl
@[simp] theorem callFor_refusalLog (s : State) (fs : List FollowOn) : (s.callFor fs).refusalLog = s.refusalLog := rfl
@[simp] theorem callFor_glbPending (s : State) (fs : List FollowOn) : (s.callFor fs).glbPending = s.glbPending := rfl
@[simp] theorem callFor_glbMask (s : State) (fs : List FollowOn) : (s.callFor fs).glbMask = s.glbMask := rfl
@[simp] theorem callFor_glbRoute (s : State) (fs : List FollowOn) : (s.callFor fs).glbRoute = s.glbRoute := rfl
@[simp] theorem callFor_spaces (s : State) (fs : List FollowOn) : (s.callFor fs).spaces = s.spaces := rfl
@[simp] theorem callFor_cache (s : State) (fs : List FollowOn) : (s.callFor fs).cache = s.cache := rfl
@[simp] theorem callFor_walkQueue (s : State) (fs : List FollowOn) : (s.callFor fs).walkQueue = s.walkQueue := rfl
@[simp] theorem callFor_walker (s : State) (fs : List FollowOn) : (s.callFor fs).walker = s.walker := rfl
@[simp] theorem callFor_inval (s : State) (fs : List FollowOn) : (s.callFor fs).inval = s.inval := rfl
@[simp] theorem callFor_channels (s : State) (fs : List FollowOn) : (s.callFor fs).channels = s.channels := rfl
@[simp] theorem callFor_lanes (s : State) (fs : List FollowOn) : (s.callFor fs).lanes = s.lanes := rfl

/-! ## respond -/

@[simp] theorem respond_pending (s : State) (p : PortResponse) : (s.respond p).pending = s.pending := rfl
@[simp] theorem respond_agenda (s : State) (p : PortResponse) : (s.respond p).agenda = s.agenda := rfl
@[simp] theorem respond_resetN (s : State) (p : PortResponse) : (s.respond p).resetN = s.resetN := rfl
@[simp] theorem respond_power (s : State) (p : PortResponse) : (s.respond p).power = s.power := rfl
@[simp] theorem respond_resetCause (s : State) (p : PortResponse) : (s.respond p).resetCause = s.resetCause := rfl
@[simp] theorem respond_dozeReq (s : State) (p : PortResponse) : (s.respond p).dozeReq = s.dozeReq := rfl
@[simp] theorem respond_autoWake (s : State) (p : PortResponse) : (s.respond p).autoWake = s.autoWake := rfl
@[simp] theorem respond_tickDiv (s : State) (p : PortResponse) : (s.respond p).tickDiv = s.tickDiv := rfl
@[simp] theorem respond_tick (s : State) (p : PortResponse) : (s.respond p).tick = s.tick := rfl
@[simp] theorem respond_tickCount (s : State) (p : PortResponse) : (s.respond p).tickCount = s.tickCount := rfl
@[simp] theorem respond_busTimeout (s : State) (p : PortResponse) : (s.respond p).busTimeout = s.busTimeout := rfl
@[simp] theorem respond_laneEnable (s : State) (p : PortResponse) : (s.respond p).laneEnable = s.laneEnable := rfl
@[simp] theorem respond_agingLimit (s : State) (p : PortResponse) : (s.respond p).agingLimit = s.agingLimit := rfl
@[simp] theorem respond_roundRobin (s : State) (p : PortResponse) : (s.respond p).roundRobin = s.roundRobin := rfl
@[simp] theorem respond_staging (s : State) (p : PortResponse) : (s.respond p).staging = s.staging := rfl
@[simp] theorem respond_refusalLog (s : State) (p : PortResponse) : (s.respond p).refusalLog = s.refusalLog := rfl
@[simp] theorem respond_glbPending (s : State) (p : PortResponse) : (s.respond p).glbPending = s.glbPending := rfl
@[simp] theorem respond_glbMask (s : State) (p : PortResponse) : (s.respond p).glbMask = s.glbMask := rfl
@[simp] theorem respond_glbRoute (s : State) (p : PortResponse) : (s.respond p).glbRoute = s.glbRoute := rfl
@[simp] theorem respond_spaces (s : State) (p : PortResponse) : (s.respond p).spaces = s.spaces := rfl
@[simp] theorem respond_cache (s : State) (p : PortResponse) : (s.respond p).cache = s.cache := rfl
@[simp] theorem respond_walkQueue (s : State) (p : PortResponse) : (s.respond p).walkQueue = s.walkQueue := rfl
@[simp] theorem respond_walker (s : State) (p : PortResponse) : (s.respond p).walker = s.walker := rfl
@[simp] theorem respond_inval (s : State) (p : PortResponse) : (s.respond p).inval = s.inval := rfl
@[simp] theorem respond_channels (s : State) (p : PortResponse) : (s.respond p).channels = s.channels := rfl
@[simp] theorem respond_lanes (s : State) (p : PortResponse) : (s.respond p).lanes = s.lanes := rfl

@[simp] theorem callFor_agenda (s : State) (fs : List FollowOn) : (s.callFor fs).agenda = fs ++ s.agenda := rfl
@[simp] theorem respond_port (s : State) (p : PortResponse) : (s.respond p).port = some p := rfl
@[simp] theorem setChan_operating (s : State) (c : ChanNo) (x : Channel) : (s.setChan c x).operating = s.operating := rfl
@[simp] theorem setLane_operating (s : State) (l : LaneNo) (x : Lane) : (s.setLane l x).operating = s.operating := rfl
@[simp] theorem setSpace_operating (s : State) (n : SpaceNo) (x : Space) : (s.setSpace n x).operating = s.operating := rfl
@[simp] theorem modChan_operating (s : State) (c : ChanNo) (f : Channel → Channel) : (s.modChan c f).operating = s.operating := rfl
@[simp] theorem modLane_operating (s : State) (l : LaneNo) (f : Lane → Lane) : (s.modLane l f).operating = s.operating := rfl
@[simp] theorem callFor_operating (s : State) (fs : List FollowOn) : (s.callFor fs).operating = s.operating := rfl
@[simp] theorem respond_operating (s : State) (p : PortResponse) : (s.respond p).operating = s.operating := rfl

end Sys2Proof.Machine
end

