-- ==== Sys2Proof/Laws/Ops.lean ====
section
/-! SUPPORT. What the shared operations can do, said once for each: later proofs cite these and do not unfold the
operations. -/

namespace Sys2Proof.Machine

/-! ## Updates that change nothing -/

@[simp] theorem setChan_chan (s : State) (c : ChanNo) : s.setChan c (s.chan c) = s := by
  simp [State.setChan, State.chan]

@[simp] theorem setLane_lane (s : State) (l : LaneNo) : s.setLane l (s.lane l) = s := by
  simp [State.setLane, State.lane]

@[simp] theorem modChan_id (s : State) (c : ChanNo) : (s.modChan c fun ch => ch) = s := setChan_chan s c

/-! ## Events (R170 to R175): only the event fields of the one channel change -/

/-- A channel with its three event fields replaced. -/
def Channel.withEvents (ch : Channel) (e : BitVec 7) (k : BitVec 8) (t : Option CoalesceTimer) : Channel :=
  { ch with evtPending := e, coalesceCount := k, coalesceTimer := t }

@[simp] theorem withEvents_self (ch : Channel) :
    ch.withEvents ch.evtPending ch.coalesceCount ch.coalesceTimer = ch := rfl

theorem modChan_congr (s : State) (c : ChanNo) {f g : Channel → Channel} (h : f (s.chan c) = g (s.chan c)) :
    s.modChan c f = s.modChan c g := by simp [State.modChan, h]

theorem eq_withEvents (s : State) (c : ChanNo) :
    ∃ e k t, s = s.modChan c fun ch => ch.withEvents e k t := by
  refine ⟨(s.chan c).evtPending, (s.chan c).coalesceCount, (s.chan c).coalesceTimer, ?_⟩
  simp [State.modChan]

theorem raise_eq (s : State) (c : ChanNo) (causes : BitVec 7) :
    s.raise c causes =
      s.modChan c fun ch => { ch with evtPending := if s.operating then ch.evtPending ||| causes else ch.evtPending } := by
  by_cases h : s.operating = true <;> simp [State.raise, h]

theorem raiseGlobal_eq (s : State) (causes : BitVec 4) :
    s.raiseGlobal causes = { s with glbPending := if s.operating then s.glbPending ||| causes else s.glbPending } := by
  by_cases h : s.operating = true <;> simp [State.raiseGlobal, h]

theorem raise_frame (s : State) (c : ChanNo) (causes : BitVec 7) :
    ∃ e k t, s.raise c causes = s.modChan c fun ch => ch.withEvents e k t :=
  ⟨_, (s.chan c).coalesceCount, (s.chan c).coalesceTimer, by
    rw [raise_eq]; exact modChan_congr s c rfl⟩

theorem reportDone_frame (s : State) (c : ChanNo) :
    ∃ e k t, s.reportDone c = s.modChan c fun ch => ch.withEvents e k t := by
  refine ⟨if s.operating then (s.chan c).evtPending ||| evtDone else (s.chan c).evtPending, 0, none, ?_⟩
  simp only [State.reportDone, raise_eq, modChan_modChan]
  exact modChan_congr s c rfl

theorem countSuccess_frame (s : State) (c : ChanNo) :
    ∃ e k t, s.countSuccess c = s.modChan c fun ch => ch.withEvents e k t := by
  unfold State.countSuccess
  split
  · exact reportDone_frame s c
  · exact ⟨(s.chan c).evtPending, _, _, modChan_congr s c rfl⟩

theorem events_trans {s t u : State} {c : ChanNo}
    (h : ∃ e k x, t = s.modChan c fun ch => ch.withEvents e k x)
    (h' : ∃ e k x, u = t.modChan c fun ch => ch.withEvents e k x) :
    ∃ e k x, u = s.modChan c fun ch => ch.withEvents e k x := by
  obtain ⟨_, _, _, rfl⟩ := h
  obtain ⟨e, k, x, rfl⟩ := h'
  exact ⟨e, k, x, by rw [modChan_modChan]; rfl⟩

/-- What a notice to the Event Unit can change: the three event fields of the channel, nothing else. -/
theorem tell_frame (s : State) (c : ChanNo) (n : Notice) :
    ∃ e k t, s.tell c n = s.modChan c fun ch => ch.withEvents e k t := by
  unfold State.tell
  have h1 : ∃ e k t, (if n.counted then s.countSuccess c else s) = s.modChan c fun ch => ch.withEvents e k t := by
    split
    · exact countSuccess_frame s c
    · exact eq_withEvents s c
  generalize (if n.counted then s.countSuccess c else s) = u at h1 ⊢
  have h2 := events_trans h1 (raise_frame u c n.causes)
  dsimp only
  generalize u.raise c n.causes = v at h2 ⊢
  by_cases h : n.causes ≠ 0 ∧ (v.chan c).coalesceCount ≠ 0
  · rw [if_pos h]
    exact events_trans h2 (reportDone_frame v c)
  · rw [if_neg h]
    exact h2

/-! ## How a channel changes state -/

theorem stopChannel_frame (s : State) (c : ChanNo) :
    ∃ e k t, s.stopChannel c = s.modChan c fun ch => ch.stop.withEvents e k t := by
  obtain ⟨e, k, t, h⟩ := tell_frame (s.modChan c Channel.stop) c { causes := evtStopped }
  exact ⟨e, k, t, by rw [State.stopChannel, h, modChan_modChan]⟩

theorem finishOrder_frame (s : State) (c : ChanNo) :
    ∃ e k t, s.finishOrder c = s.modChan c fun ch => ch.finish.withEvents e k t := by
  obtain ⟨e, k, t, h⟩ := tell_frame (s.modChan c Channel.finish) c (s.chan c).finishNotice
  exact ⟨e, k, t, by rw [State.finishOrder, h, modChan_modChan]⟩

/-- Entry to COMPLETING: a quiet success finishes in the step; any other order stays, its record owed unless the
engine dozes. -/
theorem enterCompleting_cases (s : State) (c : ChanNo) (status : Status) (result : BitVec 32) :
    (∃ e k t, s.enterCompleting c status result =
        s.modChan c fun ch => (ch.toCompleting status result).finish.withEvents e k t) ∨
      s.enterCompleting c status result = s.modChan c (fun ch => ch.toCompleting status result) ∨
      s.enterCompleting c status result = (s.modChan c fun ch => ch.toCompleting status result).callFor [.issue c] := by
  unfold State.enterCompleting
  dsimp only
  split
  · left
    obtain ⟨e, k, t, h⟩ := finishOrder_frame (s.modChan c fun ch => ch.toCompleting status result) c
    exact ⟨e, k, t, by rw [h, modChan_modChan]⟩
  · split
    · exact .inr (.inl rfl)
    · exact .inr (.inr rfl)

/-- The wake of R183 in full. -/
theorem wakeUp_eq (s : State) :
    s.wakeUp = State.callFor
      { s with
        power := .run
        dozeReq := false
        glbPending := if s.resetN then s.glbPending ||| glbWake else s.glbPending }
      s.releasedSteps := by
  cases h : s.resetN <;> simp [State.wakeUp, raiseGlobal_eq, State.operating, h]

/-! ## Lanes: what every step keeps, a lane's steps keep -/

theorem pump_induct {P : State → Prop} {l : LaneNo} (h : ∀ s t, P s → s.laneStep l = some t → P t) (s : State)
    (hs : P s) : P (s.pump l) := by
  have go : ∀ n s, P s → P (State.pumpSteps n l s) := by
    intro n
    induction n with
    | zero => exact fun _ h => h
    | succ n ih =>
      intro s hs
      unfold State.pumpSteps
      split
      · exact hs
      · rename_i t ht
        exact ih t (h s t hs ht)
  exact go 256 s hs

/-- A lane that can take no step is left as it is. -/
theorem pump_of_none {s : State} {l : LaneNo} (h : s.laneStep l = none) : s.pump l = s := by
  simp [State.pump, State.pumpSteps, h]

/-! ## The order of steps (R1) -/

/-- What every step that is due keeps, settling keeps. -/
theorem settled_induct {P : State → Prop} (hagenda : ∀ s, P s → P { s with agenda := [] })
    (h : ∀ s d, s.nextDue = some d → P s → P (s.take d)) (s : State) (hs : P s) : P s.settled := by
  have go : ∀ n s, P s → P (State.settleSteps n s) := by
    intro n
    induction n with
    | zero => exact fun _ h => h
    | succ n ih =>
      intro s hs
      unfold State.settleSteps
      split
      · exact hs
      · rename_i d hd
        exact ih _ (h s d hd hs)
  exact hagenda _ (go _ s hs)

@[simp] theorem settled_agenda (s : State) : s.settled.agenda = [] := rfl

/-- Settling finds nothing to do in a settled state. -/
theorem settleSteps_of_none {s : State} (h : s.nextDue = none) (n : Nat) : State.settleSteps n s = s := by
  cases n with
  | zero => rfl
  | succ n => simp [State.settleSteps, h]

/-- A settled state is what a command finds of it. -/
theorem settled_of_isSettled {s : State} (h : s.isSettled = true) : s.settled = s := by
  simp only [State.isSettled, Bool.and_eq_true, List.isEmpty_iff, Option.isNone_iff_eq_none] at h
  have e : s.settled = { s with agenda := [] } := by
    unfold State.settled
    rw [settleSteps_of_none h.2]
  rw [e, ← h.1]

theorem serialise_eq (s : State) (f : State → State) : s.serialise f = f s.settled := rfl

theorem serialiseDue_due {s : State} {d : Due} (h : s.nextDue = some d) : s.serialiseDue d = s.take d := by
  simp [State.serialiseDue, h]

theorem serialiseDue_not_due {s : State} {d : Due} (h : s.nextDue ≠ some d) :
    s.serialiseDue d = s.settled.take d := by
  simp [State.serialiseDue, h]

theorem access_operating {s : State} (h : s.operating = true) (f : State → State) :
    s.access f = (f s).respond .ok := by simp [State.access, h]

theorem access_reset {s : State} (h : s.operating = false) (f : State → State) : s.access f = s.respond .ok := by
  simp [State.access, h]

end Sys2Proof.Machine
end

