-- ==== Sys2Proof/Laws/Lanes.lean ====
section
/-! SUPPORT. What a translation request, a step of a lane and everything a lane does at once can change, and how the
shared ways out of a lane or into a fault change a state. -/

namespace Sys2Proof.Machine

/-! ## Translation requests -/

/-- A cache miss changes the walk queue, the walk in progress and the agenda, nothing else. -/
theorem enqueueRequest_frame (s : State) (sid : SpaceNo) (r : WalkRequest) :
    ∃ q w a, s.enqueueRequest sid r = { s with walkQueue := q, walker := w, agenda := a } := by
  unfold State.enqueueRequest
  dsimp only
  split
  · exact ⟨_, s.walker, s.agenda, rfl⟩
  · split
    · split
      · exact ⟨s.walkQueue, _, s.agenda, rfl⟩
      · exact ⟨_, s.walker, s.agenda, rfl⟩
    · exact ⟨_, s.walker, _, rfl⟩

/-- A lookup that hits leaves the cache with the same entries, the one hit first. -/
theorem lookupCache_some {cache k : List CacheEntry} {sid : SpaceNo} {r : WalkRequest} {pa : Pa}
    (h : lookupCache cache sid r = some (pa, k)) :
    ∃ e ∈ cache, e.hits sid r = true ∧ pa = translateIn e.frame e.block r.eva ∧ k = e :: cache.erase e := by
  unfold lookupCache at h
  split at h
  · rename_i e he
    simp only [Option.some.injEq, Prod.mk.injEq] at h
    exact ⟨e, List.mem_of_find?_eq_some he, (by simpa using @List.find?_some _ (fun x : CacheEntry => x.hits sid r) _ _ he), h.1.symm, h.2.symm⟩
  · simp at h

/-- A translation request changes the cache's order, the walk queue, the walk in progress and the agenda, nothing
else; the cache keeps its entries. -/
theorem requestTranslation_frame (s : State) (sid : SpaceNo) (r : WalkRequest) :
    ∃ k q w a, (s.requestTranslation sid r).1 = { s with cache := k, walkQueue := q, walker := w, agenda := a } ∧
      k.Perm s.cache := by
  unfold State.requestTranslation
  split
  · exact ⟨s.cache, s.walkQueue, s.walker, s.agenda, rfl, List.Perm.refl _⟩
  · split
    · rename_i pa k h
      obtain ⟨e, he, -, -, rfl⟩ := lookupCache_some h
      exact ⟨_, s.walkQueue, s.walker, s.agenda, rfl, (List.perm_cons_erase he).symm⟩
    · obtain ⟨q, w, a, h⟩ := enqueueRequest_frame s sid r
      exact ⟨s.cache, q, w, a, h, List.Perm.refl _⟩

/-! ## What a lane keeps while it takes steps -/

/-- Lane y does lane x's job: state, owner, abort latch, order, binding, progress and beat are x's. -/
def Lane.SameJob (x y : Lane) : Prop :=
  y.state = x.state ∧ y.owner = x.owner ∧ y.abort = x.abort ∧ y.order = x.order ∧ y.sid = x.sid ∧ y.trust = x.trust ∧
    y.progress = x.progress ∧ y.beatStart = x.beatStart ∧ y.slots.length = x.slots.length

theorem sameJob_refl (x : Lane) : x.SameJob x := by simp [Lane.SameJob]

theorem sameJob_trans {x y z : Lane} (h : x.SameJob y) (h' : y.SameJob z) : x.SameJob z := by
  simp only [Lane.SameJob] at *
  obtain ⟨h1, h2, h3, h4, h5, h6, h7, h8, h9⟩ := h
  obtain ⟨g1, g2, g3, g4, g5, g6, g7, g8, g9⟩ := h'
  exact ⟨g1.trans h1, g2.trans h2, g3.trans h3, g4.trans h4, g5.trans h5, g6.trans h6, g7.trans h7, g8.trans h8,
    g9.trans h9⟩

theorem fail_sameJob (x : Lane) (f : Failure) : x.SameJob (x.fail f) := by
  unfold Lane.fail
  split
  · split <;> simp [Lane.SameJob]
  · simp [Lane.SameJob]

theorem modSlot_sameJob (x : Lane) (p : Nat) (f : BeatSlot → BeatSlot) : x.SameJob (x.modSlot p f) := by
  simp [Lane.SameJob, Lane.modSlot]

theorem expect_sameJob (x : Lane) (k : AccessKind) (n : Nat) : x.SameJob (x.expect k n) := by
  unfold Lane.expect
  split
  · exact modSlot_sameJob x _ _
  · exact modSlot_sameJob x _ _
  · simp [Lane.SameJob]

theorem formAccess_sameJob (x : Lane) (k : AccessKind) (a : Int) (size : Nat) : x.SameJob (x.formAccess k a size) := by
  unfold Lane.formAccess
  split
  · have h := expect_sameJob x k (portionsOf a.toNat size).length
    simpa [Lane.SameJob] using h
  · exact fail_sameJob x _

theorem beginPosition_sameJob (x : Lane) : x.SameJob x.beginPosition := by
  unfold Lane.beginPosition
  dsimp only
  split <;> exact formAccess_sameJob x _ _ _

theorem followPointer_sameJob (x : Lane) : x.SameJob x.followPointer := formAccess_sameJob x _ _ _

theorem afterIssue_sameJob (x : Lane) (k : AccessKind) : x.SameJob (x.afterIssue k) := by
  unfold Lane.afterIssue
  split <;> simp [Lane.SameJob]

/-- What one step of a lane, or all it takes at once, can change: its own lane within its job, the cache's order, the
walk queue, the walk in progress and the agenda. -/
def LaneFrame (s : State) (l : LaneNo) (t : State) : Prop :=
  ∃ k q w a x, t = { s.setLane l x with cache := k, walkQueue := q, walker := w, agenda := a } ∧ k.Perm s.cache ∧
    (s.lane l).SameJob x

theorem laneFrame_refl (s : State) (l : LaneNo) : LaneFrame s l s :=
  ⟨s.cache, s.walkQueue, s.walker, s.agenda, s.lane l, by simp, List.Perm.refl _, sameJob_refl _⟩

theorem laneFrame_setLane (s : State) (l : LaneNo) {x : Lane} (h : (s.lane l).SameJob x) :
    LaneFrame s l (s.setLane l x) :=
  ⟨s.cache, s.walkQueue, s.walker, s.agenda, x, rfl, List.Perm.refl _, h⟩

theorem laneFrame_trans {s t u : State} {l : LaneNo} (h : LaneFrame s l t) (h' : LaneFrame t l u) : LaneFrame s l u := by
  obtain ⟨k, q, w, a, x, rfl, hk, hx⟩ := h
  obtain ⟨k', q', w', a', y, rfl, hk', hy⟩ := h'
  refine ⟨k', q', w', a', y, ?_, hk'.trans hk, sameJob_trans hx ?_⟩
  · simp [State.setLane]
  · have e : ({ s.setLane l x with cache := k, walkQueue := q, walker := w, agenda := a } : State).lane l = x :=
      lane_setLane_same s l x
    rwa [e] at hy

/-- One step of a lane. -/
theorem laneStep_frame {s t : State} {l : LaneNo} (h : s.laneStep l = some t) : LaneFrame s l t := by
  unfold State.laneStep at h
  dsimp only at h
  split at h
  · cases h
  · split at h
    · cases h
      exact laneFrame_setLane s l (beginPosition_sameJob _)
    · cases h
      exact laneFrame_setLane s l (by simp [Lane.SameJob])
    · rename_i k done p todo _
      split at h
      · cases h
      · obtain ⟨c, q, w, a, e, hc⟩ := requestTranslation_frame s (s.lane l).sid
          { lane := l, write := k.isWrite, eva := p.eva, trust := (s.lane l).trust, kind := k }
        split at h <;> rename_i s' _ hs <;> rw [hs] at e <;> dsimp only at e <;> cases h <;> rw [e]
        · exact ⟨c, q, w, a, _, rfl, hc, by simp [Lane.SameJob]⟩
        · exact ⟨c, q, w, a, _, rfl, hc, by simp [Lane.SameJob]⟩
    · cases h
      exact laneFrame_setLane s l (afterIssue_sameJob _ _)
    · split at h
      · cases h
        exact laneFrame_setLane s l (by simp [Lane.SameJob])
      · cases h
    · split at h
      · cases h
        exact laneFrame_setLane s l (followPointer_sameJob _)
      · cases h

/-- Everything a lane does at once. -/
theorem pump_frame (s : State) (l : LaneNo) : LaneFrame s l (s.pump l) :=
  pump_induct (P := LaneFrame s l) (fun _ _ hs ht => laneFrame_trans hs (laneStep_frame ht)) s (laneFrame_refl s l)

/-! ## Ways out of a lane, and into a fault -/

/-- The release of a lane in full. -/
theorem releaseLane_eq (s : State) (l : LaneNo) :
    s.releaseLane l =
      { s.setLane l { state := if s.laneEnable.getLsbD l.val then .free else .disabled } with
        agenda := if s.power = .run ∧ s.laneEnable.getLsbD l.val then .grants :: s.agenda else s.agenda } := by
  unfold State.releaseLane
  dsimp only
  generalize (if s.laneEnable.getLsbD l.val = true then LaneState.free else LaneState.disabled) = x
  by_cases h : s.power = .run ∧ s.laneEnable.getLsbD l.val = true
  · rw [if_pos h]
    exact if_pos h
  · rw [if_neg h]
    exact if_neg h

/-- An abandoned request changes the walk queue and the walk in progress, nothing else. -/
theorem abandonRequest_frame (s : State) (l : LaneNo) :
    ∃ q w, s.abandonRequest l = { s with walkQueue := q, walker := w } := ⟨_, _, rfl⟩

/-- The latch of a lane that is not busy, or drains already, changes nothing. -/
theorem latchLane_idle {s : State} {l : LaneNo} (h : (s.lane l).state.busy = false ∨ (s.lane l).state = .draining) :
    s.latchLane l = s := by
  unfold State.latchLane
  rcases h with h | h <;> simp [h]

/-- The latch of any other lane: it drains with its transactions, for its owner; the walk queue and the walk in
progress may lose its request; nothing else changes. -/
theorem latchLane_frame {s : State} {l : LaneNo} (h : (s.lane l).state.busy = true) (h' : (s.lane l).state ≠ .draining) :
    ∃ q w x, s.latchLane l = { s.setLane l x with walkQueue := q, walker := w } ∧ x.state = .draining ∧
      x.owner = (s.lane l).owner ∧ x.txns = (s.lane l).txns ∧ x.abort = true := by
  unfold State.latchLane
  dsimp only
  rw [if_neg (by simp [h, h'])]
  split
  · rename_i hl
    split
    · exact ⟨_, _, _, rfl, rfl, rfl, rfl, rfl⟩
    · exact ⟨s.walkQueue, s.walker, _, rfl, rfl, rfl, rfl, rfl⟩
  · split
    · exact ⟨_, _, _, rfl, rfl, rfl, rfl, rfl⟩
    · exact ⟨s.walkQueue, s.walker, _, rfl, rfl, rfl, rfl, rfl⟩

/-- A refusal outside reset, in full. -/
theorem refuse_eq {s : State} (h : s.operating = true) (reason : BitVec 3) (off : BitVec 16) :
    s.refuse reason off =
      { s with refusalLog := s.refusalLog.record reason off, glbPending := s.glbPending ||| glbAccessRefused } := by
  have h' : ({ s with refusalLog := s.refusalLog.record reason off } : State).operating = true := h
  simp [State.refuse, raiseGlobal_eq, h']

/-- Entry to FAULTED changes its channel only: state, abort flag, fault record, event fields. -/
theorem enterFaulted_frame (s : State) (c : ChanNo) (f : FaultInfo) :
    ∃ r e k t, s.enterFaulted c f = s.modChan c fun ch =>
      ({ ch with state := .faulted, abortPending := false, fault := r } : Channel).withEvents e k t := by
  unfold State.enterFaulted
  obtain ⟨e, k, t, h⟩ := tell_frame (s.modChan c fun ch =>
    { ch with
      state := .faulted
      abortPending := false
      fault := { cause := f.cause, prior := .none, access := f.access, level := f.level,
                 count := satInc ch.fault.count, index := ch.sqHead,
                 element := BitVec.ofNat 24 f.element, addr := f.addr, entry := f.entry } }) c { causes := evtFault }
  refine ⟨{ cause := f.cause, prior := .none, access := f.access, level := f.level,
            count := satInc (s.chan c).fault.count, index := (s.chan c).sqHead,
            element := BitVec.ofNat 24 f.element, addr := f.addr, entry := f.entry }, e, k, t, ?_⟩
  rw [h, modChan_modChan]
  exact modChan_congr s c rfl

/-- Entry to WEDGED changes its channel only: state, both flags, fault record, event fields. -/
theorem enterWedged_frame (s : State) (c : ChanNo) (cause : Cause) (addr : Pa) :
    ∃ r e k t, s.enterWedged c cause addr = s.modChan c fun ch =>
      ({ ch with state := .wedged, pausePending := false, abortPending := false, fault := r } : Channel).withEvents e k t := by
  unfold State.enterWedged
  obtain ⟨e, k, t, h⟩ := tell_frame (s.modChan c fun ch =>
    { ch with
      state := .wedged
      pausePending := false
      abortPending := false
      fault := { cause := cause, prior := if ch.afterFault then ch.fault.cause else .none,
                 access := .completion, level := 0, count := satInc ch.fault.count, index := ch.sqHead,
                 element := 0, addr := addr, entry := 0 } }) c { causes := evtWedged }
  refine ⟨{ cause := cause, prior := if (s.chan c).afterFault then (s.chan c).fault.cause else .none,
            access := .completion, level := 0, count := satInc (s.chan c).fault.count, index := (s.chan c).sqHead,
            element := 0, addr := addr, entry := 0 }, e, k, t, ?_⟩
  rw [h, modChan_modChan]
  exact modChan_congr s c rfl

end Sys2Proof.Machine
end

