-- ==== Sys2Proof/WellFormed.lean ====
section
/-! DEFINITION. Which operands a row of the table admits: a term that breaks one of these checks is no command of
its row. The machine gives every term a meaning all the same. -/

namespace Sys2Proof

/-- Whether a register has rows of its own in the table, so that a write to it is not a REGISTER_WRITE. -/
def Reg.hasOwnRow : Reg → Bool
  | .engCtl | .laneEnable | .glbEvtPending | .refusalLog => true
  | .low _ | .high _ | .command _ _ | .markSet _ | .sqTail _ | .cqHead _ | .evtPending _ => true
  | _ => false

/-- A REGISTER_WRITE is aligned, is no write of INVAL_CTL with GO = 1, and names no register with a row of its own. -/
def registerWriteOk (off : BitVec 16) (data : BitVec 32) : Bool :=
  off.toNat % 4 == 0 &&
    match decodeOffset off with
    | some .invalCtl => !data.getLsbD 31
    | some r => !r.hasOwnRow
    | none => true

/-- The well-formedness check, one arm per row that has a condition on its operands. -/
def Instr.wellFormed : Instr → Bool
  | .illegalSizeAccess _ off bytes => decide (0 < bytes) && (bytes != 4 || off.toNat % 4 != 0)
  | .registerWrite off data => registerWriteOk off data
  | .refusalLogClear data => data.getLsbD 0
  | .unknownCommand _ p code => !p.accepts code
  | .busTimeoutExpiry (.lane _ k) => decide (k < 8)
  | .pointerReadResponse _ k _ => decide (k < 8)
  | .laneReadResponse _ k _ => decide (k < 8)
  | .laneWriteResponse _ k _ => decide (k < 8)
  | _ => true

end Sys2Proof
end

