-- ==== Sys2Proof/Tests/Slice0.lean ====
section
/-! SUPPORT. Tests: the ill-formed terms the checks refuse, the manual's worked examples on one step or one function
each, and for every obligation that has hypotheses a witness, clause by clause, that meets them together. -/

open Sys2Proof Sys2Proof.Machine Sys2Proof.Certificates

namespace Sys2Proof.Tests

-- One theorem at a time: theorems checked side by side each hold a thread and its stack.
set_option Elab.async false

/-! ## Small states -/

/-- The state a command leads to; a stop, which no command makes, leaves the state. -/
def nextOf (s : State) (i : Instr) : State :=
  match exec i s with
  | .next t => t
  | _ => s

/-- The state a few commands lead to. -/
def after (s : State) (is : List Instr) : State := is.foldl nextOf s

/-- Channel 0 IDLE with eight submission and four completion slots, bound to space 0 in BYPASS as owner. -/
def bench : State :=
  (State.reset.setSpace 0 { mode := 1 }).setChan 0
    { state := .idle, lap := true
      cfg := { sqBase := 0x100000, sqSize := 3, cqBase := 0x200000, cqSize := 2, trust := true } }

/-- The bench with channel 0 changed. -/
def chan0 (f : Channel → Channel) : State := bench.modChan 0 f

/-- The bench with no lane enabled and channel 0 in a state. -/
def inState (st : ChState) (f : Channel → Channel := id) : State :=
  (nextOf bench (.laneEnable 0)).modChan 0 fun ch => f { ch with state := st }

/-- An order from its fields: kind, flags, shape, COUNT, TAG, SCALE, STRICT, the walks, the operands. -/
def order (kind flags shape count tag scale strict src dst op : Nat) : BitVec 512 :=
  BitVec.ofNat 512
    (kind + flags * 2 ^ 8 + shape * 2 ^ 16 + count * 2 ^ 32 + tag * 2 ^ 64 + scale * 2 ^ 96 + strict * 2 ^ 104 +
      src * 2 ^ 128 + dst * 2 ^ 256 + op * 2 ^ 384)

/-- A walk descriptor from its fields. -/
def walk (base mode dir ptr confine a b : Nat) : Nat :=
  base + mode * 2 ^ 40 + dir * 2 ^ 42 + ptr * 2 ^ 44 + confine * 2 ^ 48 + a * 2 ^ 64 + b * 2 ^ 96

/-- The order read a FETCHING channel waits for. -/
def orderRead : RingTxn := { kind := .read, addr := 0x100000, timeout := 1000 }

/-- Channel 0 FETCHING, its order read outstanding. -/
def fetching : State := inState .fetching fun ch => { ch with sqTail := 1, ring := [orderRead] }

/-- The bench after channel 0 has fetched an order. -/
def fetched (o : BitVec 512) : State :=
  nextOf (chan0 fun ch => { ch with state := .fetching, sqTail := 1, ring := [orderRead] })
    (.ringReadResponse 0 0 (some o))

/-- A MOVE of two U8 elements from 0x1000 to 0x2000. -/
def move2 : BitVec 512 := order 1 0 0 2 0xABCD 0 0 (walk 0x1000 0 0 0 0 0 0) (walk 0x2000 0 0 0 0 0 0) 0

/-- Channel 0 RUNNING that MOVE on lane 0, both reads outstanding. -/
def moving : State := (fetched move2).settled

/-- Channel 0 RUNNING that MOVE on lane 0, the lane as given. -/
def onLane (x : Lane) : State :=
  (inState .running fun ch => { ch with sqTail := 1, order := some move2 }).setLane 0
    { x with owner := some 0, order := move2, place := 2 }

/-- A transaction of that MOVE for a position, at its source or its destination. -/
def txnAt (k : AccessKind) (base : Nat) (p : Nat) : LaneTxn :=
  { pos := p, kind := k, portion := { eva := BitVec.ofNat 40 (base + p), off := 0, len := 1 }
    pa := BitVec.ofNat 44 (base + p), data := 0x11, timeout := 1000 }

/-- Lane 0 in its read phase, both reads outstanding. -/
def reading : State :=
  onLane
    { state := .reading, slots := [{ readsLeft := some 1 }, { readsLeft := some 1 }]
      txns := [txnAt .srcData 0x1000 0, txnAt .srcData 0x1000 1] }

/-- The place of a position whose write is outstanding. -/
def writeSlot : BeatSlot :=
  { readsLeft := some 0, isShaped := true, shaped := some { bytes := 0x11, flags := {} }, writesLeft := some 1 }

/-- Lane 0 in its write phase, both writes outstanding. -/
def writing : State :=
  onLane { state := .writing, slots := [writeSlot, writeSlot], txns := [txnAt .dstData 0x2000 0, txnAt .dstData 0x2000 1] }

/-- Lane 0 draining for an ABORT. -/
def draining (s : State) : State := (s.modChan 0 Channel.toAbort).modLane 0 Lane.latch

/-- The record write a COMPLETING channel waits for. -/
def recordWrite : RingTxn := { kind := .write 0, addr := 0x200000, timeout := 1000 }

/-- Channel 0 COMPLETING, its record write outstanding. -/
def completing (f : Channel → Channel := id) : State :=
  inState .completing fun ch => f { ch with sqTail := 1, order := some move2, ring := [recordWrite] }

/-! ## The checks of WellFormed -/

theorem test_size_access_of_no_bytes_is_ill_formed : (Instr.illegalSizeAccess true 8 0).wellFormed = false := by decide
theorem test_legal_access_is_no_illegal_size_access : (Instr.illegalSizeAccess false 8 4).wellFormed = false := by decide
theorem test_misaligned_register_write_is_ill_formed : (Instr.registerWrite 0x011 5).wellFormed = false := by decide
theorem test_register_with_its_own_row_is_ill_formed : (Instr.registerWrite 0x040 5).wellFormed = false := by decide
theorem test_doorbell_by_register_write_is_ill_formed : (Instr.registerWrite 0x3000 5).wellFormed = false := by decide
theorem test_go_by_register_write_is_ill_formed : (Instr.registerWrite 0x030 0x80000000).wellFormed = false := by decide
theorem test_log_clear_without_valid_is_ill_formed : (Instr.refusalLogClear 2).wellFormed = false := by decide
theorem test_known_code_is_no_unknown_command : (Instr.unknownCommand 0 .chCtl 0x12).wellFormed = false := by decide
theorem test_ninth_lane_timeout_is_ill_formed : (Instr.busTimeoutExpiry (.lane 0 8)).wellFormed = false := by decide
theorem test_ninth_pointer_response_is_ill_formed : (Instr.pointerReadResponse 0 8 none).wellFormed = false := by decide
theorem test_ninth_read_response_is_ill_formed : (Instr.laneReadResponse 0 8 none).wellFormed = false := by decide
theorem test_ninth_write_response_is_ill_formed : (Instr.laneWriteResponse 0 8 true).wellFormed = false := by decide
theorem test_ordinary_register_write_is_well_formed : (Instr.registerWrite 0x298 0).wellFormed = true := by decide
theorem test_enable_code_is_unknown_to_ch_cmd : (Instr.unknownCommand 0 .chCmd 0x10).wellFormed = true := by decide

/-! ## Offsets: the addresses the manual's examples of chapter 1 spell out -/

theorem test_space_root_3_halves :
    decodeOffset 0x138 = some (.low (.spaceRoot 3)) ∧ decodeOffset 0x13C = some (.high (.spaceRoot 3)) := by decide
theorem test_cq_base_5_halves :
    decodeOffset 0x34C = some (.low (.cqBase 5)) ∧ decodeOffset 0x350 = some (.high (.cqBase 5)) := by decide
theorem test_bind_and_coalesce_of_channel_2 :
    decodeOffset 0x298 = some (.bind 2) ∧ decodeOffset 0x2A4 = some (.coalesce 2) := by decide
theorem test_0x9004_is_unassigned : decodeOffset 0x9004 = none := by decide

/-! ## Register accesses (the examples of sections 1.3 and 1.4) -/

theorem test_space_root_commits_the_staged_half :
    let t := after State.reset [.stageLowHalf (.spaceRoot 3) 0x12345000, .commitHighHalf (.spaceRoot 3) 0x0000000A]
    (t.space 3).rootPa = 0x00A12345000 ∧ t.read 0x138 = 0x12345000 ∧ t.read 0x13C = 0x0000000A := by decide +kernel
theorem test_staged_half_is_not_seen : (nextOf State.reset (.stageLowHalf (.spaceRoot 3) 0x12345000)).read 0x138 = 0 := by
  decide +kernel
theorem test_size_refusal_opens_the_log :
    (nextOf bench (.illegalSizeAccess false 0x0008 2)).refusalLog =
      { valid := true, reason := 1, offset := 0x0008, count := 1 } := by decide +kernel
theorem test_second_refusal_counts_only :
    (after bench [.illegalSizeAccess false 0x0008 2, .registerWrite 0x218 0]).refusalLog =
      { valid := true, reason := 1, offset := 0x0008, count := 2 } := by decide +kernel
theorem test_access_refused_survives_the_log :
    (after bench [.illegalSizeAccess false 0x0008 2, .refusalLogClear 1]).glbPending = 2 := by decide +kernel
theorem test_coalesce_is_not_protected : ((nextOf bench (.registerWrite 0x224 0x00320004)).chan 0).cfg.timer = 50 := by
  decide +kernel
theorem test_pending_bit_cleared_by_one :
    ((nextOf (chan0 fun ch => { ch with evtPending := 0x05 }) (.eventPendingClear (.channel 0) 1)).chan 0).evtPending = 4 := by
  decide +kernel
theorem test_busy_lane_keeps_running_when_disabled :
    ((nextOf moving (.laneEnable 0)).lane 0).state = .reading ∧ ((nextOf moving (.laneEnable 0)).lane 1).state = .disabled := by
  decide +kernel
theorem test_invalidation_without_old_work_ends_at_once :
    (nextOf bench (.invalGo 0 0)).settled.inval = { busy := false, requestsDone := 1 } := by decide +kernel

/-! ## Rings (the examples of section 3.8) -/

/-- Channel 0 as channel 4 of the doorbell example: SQ_HEAD 100, SQ_TAIL as given. -/
def doorbells (tail : BitVec 16) : State := inState .queued fun ch => { ch with sqHead := 100, sqTail := tail }

theorem test_doorbell_fills_the_ring : ((nextOf (doorbells 105) (.doorbell 0 108)).chan 0).sqTail = 108 := by decide +kernel
theorem test_doorbell_past_the_ring_is_refused :
    ((nextOf (doorbells 108) (.doorbell 0 109)).chan 0).sqTail = 108 ∧
      ((nextOf (doorbells 108) (.doorbell 0 109)).chan 0).evtPending = 0x20 := by decide +kernel
theorem test_cq_head_past_the_tail_is_refused :
    ((nextOf (chan0 fun ch => { ch with cqTail := 4 }) (.cqHeadWrite 0 5)).chan 0).evtPending = 0x40 := by decide +kernel
theorem test_fourth_record_toggles_lap :
    ((nextOf (completing fun ch => { ch with cqTail := 3 }) (.completionWriteResponse 0 0 true)).chan 0).lap = false := by
  decide +kernel
theorem test_full_ring_waits_for_a_slot :
    ((nextOf (chan0 fun ch => { ch with sqTail := 5, sqHead := 4, cqTail := 4 }) (.fetchStart 0)).chan 0).state =
      .waitingSlot := by decide +kernel
theorem test_order_read_address_wraps_in_the_ring :
    (bench.chan 0).cfg.orderAddress 9 = 0x100040 := by decide

/-! ## Orders (the examples of section 4.5) -/

/-- The narrowing MOVE of section 4.5. -/
def narrowing : BitVec 512 :=
  order 1 2 0x0413 1024 0x12345678 0xF8 0 (walk 0x40000000 0 0 0 0 0 0) (walk 0x50000000 0 0 0 0 0 0) 0

theorem test_narrowing_move_fields :
    ordEvent narrowing = true ∧ ordSrcFmt narrowing = 3 ∧ ordDstFmt narrowing = 1 ∧ ordSaturate narrowing = true ∧
      ordCount narrowing = 1024 ∧ ordTag narrowing = 0x12345678 ∧ ordScale narrowing = -8 := by decide +kernel
theorem test_kind_9_is_invalid : validate 1 5 (order 9 0 0 0 0 0 0 0 0 0) = .invalidKind := by decide +kernel
theorem test_fill_with_source_format : validate 1 5 (order 2 0 2 0 0 0 0 0 0 0) = .reservedNonzero := by decide +kernel
theorem test_reserved_comes_before_field :
    validate 1 5 (order 1 0 12 0 0 0 0 0 (2 ^ 56) 0) = .reservedNonzero := by decide +kernel
theorem test_strided_descending_is_invalid :
    validate 1 5 (order 1 0 0 0 0 0 0 (walk 0 1 1 0 0 0 0) 0 0) = .invalidField := by decide +kernel
theorem test_plane_too_wide : validate 1 5 (order 1 0 0 0 0 0 0 (walk 0 3 0 1 0 0 0x100) 0 0) = .invalidField := by
  decide +kernel
theorem test_auto_on_both_walks :
    validate 1 5 (order 1 0 0x54 0 0 0 0 (walk 0 0 2 0 0 0 0) (walk 0 0 2 0 0 0 0) 0) = .ok := by decide +kernel
theorem test_wait_on_a_masked_channel : validate 1 5 (order 5 0 0 0 0 0 0 0 0 3) = .denied := by decide +kernel
theorem test_auto_move_upward_goes_down :
    decidedDown (order 1 0 0x44 40 0 0 0 (walk 0x1000 0 2 0 0 0 0) (walk 0x1008 0 2 0 0 0 0) 0) = true ∧
      decidedDown (order 1 0 0x44 40 0 0 0 (walk 0x1000 0 2 0 0 0 0) (walk 0x10A0 0 2 0 0 0 0) 0) = false := by decide +kernel
theorem test_invalid_order_completes_unexecuted :
    ((nextOf fetching (.ringReadResponse 0 0 (some (order 9 0 0 0 0 0 0 0 0 0)))).chan 0).status = .invalidKind := by
  decide +kernel
theorem test_record_carries_the_tag : (Channel.record { order := some move2 } 0 7).extractLsb' 0 32 = 0xABCD := by
  decide +kernel

/-! ## Walks and portions (the examples of chapter 5) -/

theorem test_block_row_1_column_2 :
    placedAddress (BitVec.ofNat 128 (walk 0x80001E00 2 0 0 0 0xF00 3)) 2 5 = 0x80002D04 := by decide +kernel
theorem test_unconfined_descent_below_zero :
    placedAddress (BitVec.ofNat 128 (walk 0x100 1 0 0 0 0xFFFFFFC0 0)) 2 5 = -0x40 ∧
      failureAddress (-0x40) = 0xFFFFFFFFFC0 := by decide +kernel
theorem test_confined_descent_stays_in_its_window :
    placedAddress (BitVec.ofNat 128 (walk 0x100 1 0 0 2 0xFFFFFFC0 0)) 2 5 = 0xFC0 := by decide +kernel
theorem test_short_pointer_wraps :
    pointerAddress (BitVec.ofNat 128 (walk 0x2000000 3 0 0 0 0x20 0x123400)) 0xFFF0 = 0x1234000010 := by decide +kernel
theorem test_element_split_at_a_page :
    portionsOf 0x30FFC 8 =
      [{ eva := 0x30FFC, off := 0, len := 4 }, { eva := 0x31000, off := 4, len := 4 }] := by decide +kernel

/-! ## Shaping and the digest (the examples of chapter 6) -/

theorem test_narrowing_rounds_and_saturates :
    shapeElement narrowing 0x0180 = { bytes := 0x02, flags := { inexact := true } } ∧
      shapeElement narrowing 0x0280 = { bytes := 0x02, flags := { inexact := true } } ∧
      shapeElement narrowing 0xFE80 = { bytes := 0xFE, flags := { inexact := true } } ∧
      shapeElement narrowing 0x7FFF = { bytes := 0x7F, flags := { inexact := true, saturated := true } } ∧
      shapeElement narrowing 0x8000 = { bytes := 0x80, flags := {} } := by decide +kernel
theorem test_rounding_modes :
    (List.map (fun r => (scaleValue r (-2) (-10)).1) [0, 1, 2, 3]) = [-2, -2, -3, -2] ∧
      (List.map (fun r => (scaleValue r (-2) 10).1) [0, 1, 2, 3]) = [2, 2, 2, 3] ∧
      (List.map (fun r => (scaleValue r (-2) (-1)).1) [0, 1, 2, 3]) = [0, 0, -1, 0] := by decide +kernel
theorem test_unsigned_to_signed_wraps_to_its_bits :
    rangeValue 3 false 0x8000 = (-0x8000, { wrapped := true }) ∧
      rangeValue 3 true 0x8000 = (0x7FFF, { saturated := true }) := by decide +kernel
theorem test_source_swap :
    shapeElement (order 1 0 (0x44 + 2 ^ 11) 1 0 0 0 0 0 0) 0x44332211 = { bytes := 0x11223344, flags := {} } := by
  decide +kernel
theorem test_swap_before_narrowing :
    (shapeElement (order 1 0 (0x24 + 2 ^ 11) 1 0 0 0 0 0 0) 0x44332211).bytes = 0x3344 := by decide +kernel
theorem test_ramp_wraps :
    (List.range 4).map (rampBytes (order 2 0 0 8 0 0 0 0 0 (0xF0 + 0x10 * 2 ^ 64))) = [0xF0, 0x00, 0x10, 0x20] := by
  decide +kernel
theorem test_swapped_ramp : rampBytes (order 2 0 0x1020 2 0 0 0 0 0 (0xAB001234 + 2 ^ 64)) 1 = 0x3512 := by
  decide +kernel
theorem test_digest_of_three_bytes : foldBytes (seedDigest 1) [1, 2, 3] = (7, 13) ∧ digestValue 7 13 = 0x000D0007 := by
  decide +kernel
theorem test_digest_seed_and_reduction :
    foldBytes (seedDigest 0xFFEE) [5] = (4, 4) ∧ seedDigest 0xFFFFFFF5 = (6, 16) := by decide +kernel

/-! ## Lanes -/

theorem test_move_reads_both_elements :
    ((moving.lane 0).txns.map fun t => (t.kind, t.pa)) = [(.srcData, 0x1000), (.srcData, 0x1001)] := by decide +kernel
theorem test_move_writes_what_it_read :
    (((after moving [.laneReadResponse 0 1 (some 0x22), .laneReadResponse 0 0 (some 0x11)]).settled.lane 0).txns.map
      fun t => (t.pa, t.data)) = [(0x2000, 0x11), (0x2001, 0x22)] := by decide +kernel
theorem test_write_error_stops_at_the_first_position :
    let t := (after moving [.laneReadResponse 0 0 (some 1), .laneReadResponse 0 0 (some 2), .laneWriteResponse 0 1 true,
      .laneWriteResponse 0 0 false]).settled
    (t.chan 0).state = .faulted ∧ (t.chan 0).fault.access = .dstData ∧ (t.chan 0).fault.element = 0 ∧
      (t.chan 0).progress.count = 0 := by decide +kernel
theorem test_aborted_move_drains :
    ((nextOf moving (.cmdAbort 0 .chCmd)).lane 0).state = .draining ∧
      ((after moving [.cmdAbort 0 .chCmd, .laneReadResponse 0 0 none, .laneReadResponse 0 0 none]).settled.chan 0).status =
        .aborted := by decide +kernel

/-- The second row of the example of grants with aging: the pointer at 1, channels 1, 4 and 6 QUEUED. -/
def aging : State :=
  let queue (s : State) (c : ChanNo) (p : BitVec 2) (n : BitVec 8) : State :=
    s.setChan c { state := .queued, passOver := n, cfg := { priority := p } }
  queue (queue (queue { State.reset with agingLimit := 2, roundRobin := 1, agenda := [.grants] } 1 2 0) 4 2 1) 6 0 1

theorem test_grant_goes_round_from_the_pointer :
    aging.grantWinner = some 4 ∧ ((nextOf aging .laneGrant).chan 6).passOver = 2 ∧
      ((nextOf aging .laneGrant).chan 1).passOver = 1 ∧ ((nextOf aging .laneGrant).chan 4).passOver = 0 := by decide +kernel
theorem test_aged_channel_wins :
    (State.modChan { aging with roundRobin := 4 } 6 fun ch => { ch with passOver := 2 }).grantWinner = some 6 := by decide +kernel

/-! ## Translation (the example of a write walk with a flag update) -/

/-- The write request of the example, for channel 0's lane 0. -/
def exampleRequest : WalkRequest := { lane := 0, write := true, eva := 0x1234567ABC, trust := true, kind := .dstData }

/-- Space 5 of the example, its lane 0 busy with the element and its request queued. -/
def walking : State :=
  let s := State.reset.setSpace 5 { mode := 2, flagUpdate := true, root := 0x100 }
  let s := s.setChan 0 { state := .running, order := some move2 }
  let s := s.setLane 0
    { state := .writing, owner := some 0, sid := 5, order := move2, slots := [{ writesLeft := some 1 }], request := true
      cursor := .translate .dstData [] [{ eva := 0x1234567ABC, off := 0, len := 4 }] }
  { s with walkQueue := [{ sid := 5, page := 0x1234567, requests := [exampleRequest] }], agenda := [.walk] }

/-- The example's walk after its level-1 read, its level-2 read and, for the last, its level-3 read. -/
def walked (n : Nat) : State :=
  after walking
    ([.walkStart, .tableReadResponse (some 0x200001), .tableReadResponse (some 0x300001),
      .tableReadResponse (some 0x8765400F)].take n)

theorem test_walk_reads_the_three_levels :
    (walked 1).walker.map (·.phase) = some (.reading 1 0x100240) ∧
      (walked 2).walker.map (·.phase) = some (.reading 2 0x200D10) ∧
      (walked 3).walker.map (·.phase) = some (.reading 3 0x300B38) := by decide +kernel
theorem test_leaf_without_flags_is_exchanged :
    (walked 4).walker.map (·.phase) = some (.exchanging 3 0x300B38 0x8765400F 0x8765406F) := by decide +kernel
theorem test_exchange_delivers_the_translation :
    ((nextOf (walked 4) (.exchangeResponse .swapped)).lane 0).txns.map (·.pa) = [0x87654ABC] ∧
      (nextOf (walked 4) (.exchangeResponse .swapped)).cache =
        [{ sid := 5, page := 0x1234567, block := false, frame := 0x87654000, read := true, write := true,
           ownerOnly := false, modKnown := true }] := by decide +kernel
theorem test_malformed_table_entry :
    (((nextOf (walked 2) (.tableReadResponse (some 0x300081))).lane 0).failure.bind (·.fault)).map
      (fun f => (f.cause, f.level, f.entry)) = some (.entryMalformed, 2, 0x200D10) := by decide +kernel

/-! ## Witnesses: for each obligation, a state and operands that meet its hypotheses together

Each names its state `s`, and `u` is `s.settled`, as in the statement. -/

/-- RESET_N low. -/
def low : State := nextOf bench .powerOnReset

/-- A soft reset that waits for lane 0. -/
def resetting : State := nextOf moving (.softReset true true)

/-- The bench in DOZE. -/
def dozing (autoWake : Bool) : State := nextOf (nextOf bench (.dozeReqSet autoWake)) .dozeEntered

theorem witness_StepRunsTheFrontCommand :
    ({ bench with pending := [.tickBoundary, .wake] } : State).pending = .tickBoundary :: [.wake] := rfl

theorem witness_CommandsLeaveTheQueueAlone :
    ∃ (i : Instr) (s t : State), s.pending ≠ [] ∧ exec i s = .next t :=
  ⟨.tickBoundary, { bench with pending := [.wake] }, _, by decide, rfl⟩

theorem witness_PowerOnResetAndItsRelease : low.settled.resetN = false ∧ bench.settled.resetN = true := by
  decide +kernel

theorem witness_SoftResetDrainsAndThenResets :
    (moving.settled.operating = true ∧ (moving.settled.lane 0).state.busy = true ∧
      (moving.settled.lane 1).state.busy = false) ∧
    (let s := nextOf bench (.softReset true true)
     s.resetN = true ∧ s.power = .resetting ∧ (∀ l, (s.lane l).state.busy = false) ∧ s.walker = none ∧
       ∀ c, (s.chan c).ring = []) := by decide +kernel

theorem witness_AccessesInResetChangeNothing :
    low.settled.operating = false ∧ resetting.settled.operating = false ∧ isAccess (.registerWrite 0x010 7) = true ∧
      ((2 : Nat) ≠ 4 ∨ (0x010#16).toNat % 4 ≠ 0) ∧ low.settled.resetN = false ∧ resetting.settled.resetN = true := by
  decide +kernel

theorem witness_IllegalSizeAccessIsLoggedAndChangesNothingElse :
    bench.settled.operating = true ∧ ((2 : Nat) ≠ 4 ∨ (8#16).toNat % 4 ≠ 0) ∧ ((4 : Nat) ≠ 4 ∨ (9#16).toNat % 4 ≠ 0) := by
  decide +kernel

theorem witness_ProtectedRegistersRefuseWrites :
    let u := bench.settled
    u.operating = true ∧ (u.chan 0).state ≠ .disabled ∧ (u.chan 0).cfg.sid = 0 := by decide +kernel

theorem witness_HighHalfCommitsWithTheStagedLowHalf :
    bench.settled.operating = true ∧ Unprotected bench.settled .invalAddr ∧ Unprotected bench.settled (.spaceRoot 15) ∧
      Unprotected bench.settled (.sqBase 1) ∧ Unprotected bench.settled (.cqBase 7) :=
  ⟨by decide +kernel, trivial, (by decide +kernel : ∀ c, (bench.settled.chan c).state ≠ .disabled →
    (bench.settled.chan c).cfg.sid ≠ 15), (by decide +kernel : (bench.settled.chan 1).state = .disabled),
    (by decide +kernel : (bench.settled.chan 7).state = .disabled)⟩

theorem witness_RegisterWritesStoreTheirFields :
    let u := bench.settled
    u.operating = true ∧ (0x7FFFFFFF#32).getLsbD 31 = false ∧
      (∀ c, (u.chan c).state ≠ .disabled → (u.chan c).cfg.sid ≠ 1) ∧ (u.chan 7).state = .disabled ∧
      (∀ n ∈ [0x028, 0x02C, 0x04C, 0x054, 0x0FC, 0x104, 0x1F4, 0x230, 0x3FC, 0x400, 0xFFC, 0x103C, 0x1050, 0x8FFC, 0x9000,
        0xFFFC], Unassigned (BitVec.ofNat 16 n)) ∧
      (∀ l, (u.lane l).owner ≠ some 0) ∧
      (let v := moving.settled
       v.operating = true ∧ (v.lane 0).owner = some 0 ∧ (v.lane 0).state = .reading ∧
         ∀ m, (v.lane m).owner = some 0 → m = 0) := by
  unfold Unassigned
  decide +kernel

/-- Channel 0 RUNNING and an invalidation that waits for its lane. -/
def invalidating : State := nextOf (moving.modLane 0 Lane.markOld) (.invalGo 1 5)

/-- It with its refusal log cleared. -/
def logCleared : State := nextOf invalidating (.refusalLogClear 1)

theorem witness_WritingValidClearsTheRefusalLog :
    (bench.settled.operating = true ∧ (0xFFFFFFFE#32).getLsbD 0 = false) ∧
    (invalidating.settled.operating = true ∧ (1#32).getLsbD 0 = true) ∧
    (Refused logCleared.settled (.illegalSizeAccess false 0x050 2) 1 0x050 ∧
      Refused logCleared.settled (.registerWrite 0x220 0) 2 0x220 ∧
      Refused logCleared.settled (.commitHighHalf (.sqBase 0) 0) 2 0x204 ∧
      Refused logCleared.settled (.stageLowHalf (.spaceRoot 0) 0) 3 0x108 ∧
      Refused logCleared.settled (.invalGo 0 0) 4 0x030) :=
  have held : (logCleared.settled.chan 0).state ≠ .disabled := by decide +kernel
  have space : spcOff (logCleared.settled.chan 0).cfg.sid 0x8 = 0x108 := by decide +kernel
  have sid : (logCleared.settled.chan 0).cfg.sid = 0 := by decide +kernel
  ⟨by decide +kernel, by decide +kernel,
    .inl ⟨rfl, false, 2, .inl (by decide), rfl⟩,
    .inr (.inl ⟨rfl, 0, 0, held, .inr (.inr (.inr (.inr ⟨0x20, by decide, by decide, rfl⟩)))⟩),
    .inr (.inl ⟨rfl, 0, 0, held, .inr (.inl ⟨by decide, rfl⟩)⟩),
    .inr (.inr (.inl ⟨rfl, 0, 0, held, .inr (.inl ⟨space.symm, by rw [sid]⟩)⟩)),
    .inr (.inr (.inr ⟨rfl, by decide +kernel, rfl, 0, 0, rfl⟩))⟩

theorem witness_PendingBitsWrittenOneAreCleared : bench.settled.operating = true := by decide +kernel

theorem witness_LaneEnableActsByLaneState :
    bench.settled.operating = true ∧ (bench.settled.lane 0).state = .free ∧
      ((inState .idle).settled.lane 0).state = .disabled ∧ (inState .idle).settled.operating = true := by decide +kernel

theorem witness_InvalidationStartsByScope :
    bench.settled.operating = true ∧ bench.settled.inval.busy = false ∧
      (let u := invalidating.settled
       u.operating = true ∧ u.inval.busy = true) := by decide +kernel

theorem witness_DozeRequestsActByPowerState :
    (bench.settled.operating = true ∧ bench.settled.power = .run) ∧
    (let u := (nextOf moving (.dozeReqSet true)).settled
     u.operating = true ∧ u.power = .dozeEntry) ∧
    (dozing false).settled.operating = true ∧ (dozing false).settled.power = .doze := by decide +kernel

theorem witness_IndexWritesStoreOrAreRefused :
    let ok (s : State) (v : BitVec 16) : Prop :=
      let ch := s.settled.chan 0
      ch.state ≠ .disabled ∧ ch.state ≠ .clearing ∧ (v - ch.sqHead).toNat ≤ 2 ^ ch.cfg.sqSize.toNat ∧
        (ch.sqTail - ch.sqHead).toNat ≤ (v - ch.sqHead).toNat
    let okHead (s : State) (v : BitVec 16) : Prop :=
      let ch := s.settled.chan 0
      ch.state ≠ .disabled ∧ ch.state ≠ .clearing ∧ (v - ch.cqHead).toNat ≤ (ch.cqTail - ch.cqHead).toNat
    ((doorbells 105).settled.operating = true ∧ (doorbells 105).settled.power = .run ∧ ok (doorbells 105) 105 ∧
      ok (doorbells 105) 108 ∧ ¬ok (doorbells 105) 109 ∧ ¬ok (doorbells 105) 104) ∧
    ((dozing true).settled.power = .doze ∧ (dozing true).settled.autoWake = true ∧ ok (dozing true) 8) ∧
    okHead (completing fun ch => { ch with cqTail := 3 }) 3 ∧
      ¬okHead (completing fun ch => { ch with cqTail := 3 }) 4 := by decide +kernel

theorem witness_MarkSetWritesTheCounter :
    bench.settled.operating = true ∧ low.settled.operating = false ∧
      (nextOf bench (.cmdReset 0)).nextDue = some (.channelResetEnd 0) := by decide +kernel

theorem witness_PauseContinueAndDisableActByChannelState :
    (∀ st ∈ [ChState.idle, .waitingSlot, .fetching, .syncWait, .queued, .completing, .faulted, .stopped],
      ((inState st).settled.chan 0).state = st ∧ (inState st).settled.operating = true) ∧
    (moving.settled.chan 0).state = .running ∧
    (let ch := (nextOf moving (.cmdPause 0 .chCmd)).settled.chan 0
     Safety.pauseAllowed ch.state = true ∧ ch.pausePending = true) := by decide +kernel

/-- Channel 0 FAULTED with an access kind. -/
def faulted (k : AccessKind) (pause : Bool) : State :=
  inState .faulted fun ch => { ch with fault := { access := k }, order := some move2, pausePending := pause }

theorem witness_ResumeAndFailLeaveFaulted :
    (∀ k ∈ [AccessKind.srcData, .ring], ∀ b, (faulted k b).settled.operating = true ∧
      ((faulted k b).settled.chan 0).state = .faulted ∧ ((faulted k b).settled.chan 0).fault.access = k ∧
      ((faulted k b).settled.chan 0).pausePending = b) := by decide +kernel

theorem witness_AbortActsByChannelState :
    (∀ st ∈ [ChState.idle, .waitingSlot, .fetching, .queued, .completing, .stopped],
      ((inState st).settled.chan 0).state = st ∧ (inState st).settled.operating = true) ∧
    (∀ k ∈ [AccessKind.srcData, .ring], ((faulted k false).settled.chan 0).state = .faulted ∧
      ((faulted k false).settled.chan 0).fault.access = k) ∧
    (let w : WaitEntry := { target := 1, threshold := 5, timeout := 0 }
     let u := (inState .syncWait fun ch => { ch with wait := some w }).settled
     (u.chan 0).state = .syncWait ∧ (u.chan 0).wait = some w) ∧
    (let u := moving.settled
     (u.chan 0).state = .running ∧ (u.chan 0).abortPending = false ∧ u.heldLane 0 = some 0 ∧
       (u.lane 0).state ≠ .draining) := by decide +kernel

theorem witness_FlushDiscardsThePendingOrders :
    ((inState .stopped).settled.operating = true ∧ ((inState .stopped).settled.chan 0).state = .stopped) ∧
    (bench.settled.operating = true ∧ (bench.settled.chan 0).state ≠ .stopped ∧
      (bench.settled.chan 0).state ≠ .clearing) ∧
    (nextOf bench (.cmdReset 0)).nextDue = some (.channelResetEnd 0) ∧
    (nextOf bench (.softReset true true)).nextDue = some .softResetEnd := by decide +kernel

/-- Channel 0 DISABLED with its base registers at the last legal place, or past it. -/
def disabledAt (sqBase : Pa) : State := inState .disabled fun ch => { ch with cfg := { ch.cfg with sqBase := sqBase } }

theorem witness_EnableChecksTheConfiguration :
    ((disabledAt 0xFFFFFFFFE00).settled.operating = true ∧
      ((disabledAt 0xFFFFFFFFE00).settled.chan 0).state = .disabled ∧
      ConfigurationOk (disabledAt 0xFFFFFFFFE00).settled 0) ∧
    ((disabledAt 0x40).settled.operating = true ∧ ((disabledAt 0x40).settled.chan 0).state = .disabled ∧
      ¬ConfigurationOk (disabledAt 0x40).settled 0) := by
  unfold ConfigurationOk
  decide +kernel

theorem witness_ResetCommandStopsTheChannel :
    (bench.settled.operating = true ∧ (bench.settled.chan 0).state ≠ .clearing ∧ bench.settled.heldLane 0 = none) ∧
    (moving.settled.operating = true ∧ (moving.settled.chan 0).state ≠ .clearing ∧
      moving.settled.heldLane 0 = some 0) := by decide +kernel

theorem witness_RejectedCommandsChangeOnlyTheResult :
    (let ch := bench.settled.chan 0
     bench.settled.operating = true ∧ (.cmdFlush 0 .chCmd, false) ∈ commands 0 .chCmd ch ∧ ch.state ≠ .clearing ∧
       pauseFlagOk ch = true) ∧
    (let s := inState .clearing fun ch => { ch with ring := [orderRead] }
     (s.settled.chan 0).state = .clearing ∧ s.settled.operating = true ∧
       (.cmdPause 0 .chCmd, false) ∈ commands 0 .chCmd (s.settled.chan 0)) ∧
    (∀ n ∈ [0, 7, 0x0F, 0x13, 0xFF], ¬(1 ≤ (BitVec.ofNat 8 n).toNat ∧ (BitVec.ofNat 8 n).toNat ≤ 6) ∧
      ¬(CmdPort.chCtl = .chCtl ∧ 0x10 ≤ (BitVec.ofNat 8 n).toNat ∧ (BitVec.ofNat 8 n).toNat ≤ 0x12)) ∧
    (¬(1 ≤ (0x10#8).toNat ∧ (0x10#8).toNat ≤ 6) ∧ ¬(CmdPort.chCmd = .chCtl ∧ 0x10 ≤ (0x10#8).toNat ∧ (0x10#8).toNat ≤ 0x12)) := by
  decide +kernel

theorem witness_CommandsLeaveOtherChannelsAlone :
    (1 : ChanNo) ≠ 0 ∧ (.cmdReset 0, true) ∈ commands 0 .chCtl (moving.settled.chan 0) := by decide +kernel

theorem witness_ChannelResetEndClearsTheContext :
    (nextOf bench (.cmdReset 0)).nextDue = some (.channelResetEnd 0) := by decide +kernel

theorem witness_TickBoundaryCountsEverything :
    moving.settled.operating = true ∧ moving.settled.tick.isSome = true := by decide +kernel

/-- A tick boundary at which every transaction of lane 0, channel 0 and the walker has reached its timeout. -/
def overdue (s : State) : State :=
  let s := s.modChan 0 fun ch => { ch with ring := ch.ring.map fun t => { t with age := 1000 } }
  let s := s.modLane 0 fun x => { x with txns := x.txns.map fun t => { t with age := 1000 } }
  { s with walker := s.walker.map fun w => { w with age := 1000 }, agenda := [.expiries] }

/-- The walk of the example made stale. -/
def staled (s : State) : State :=
  { s with walker := s.walker.map fun w => { w with walk := { w.walk with stale := true } } }

theorem witness_BusTimeoutEndsTheTransaction :
    (let s := overdue reading
     s.nextDue = some (.busTimeout (.lane 0 0)) ∧ (s.lane 0).state ≠ .draining ∧ (s.lane 0).failure = none ∧
       (s.lane 0).txns[0]? = some { txnAt .srcData 0x1000 0 with age := 1000 } ∧ 0 ≤ (s.lane 0).pos) ∧
    (let s := overdue (draining reading)
     s.nextDue = some (.busTimeout (.lane 0 0)) ∧ (s.lane 0).state = .draining) ∧
    (let s := overdue (walked 1)
     s.nextDue = some (.busTimeout .walker) ∧ s.walker.map (·.phase) = some (.reading 1 0x100240) ∧
       s.walker.map (·.walk.stale) = some false ∧ s.walker.map (·.walk.requests) = some [exampleRequest] ∧
       (s.lane 0).cursor = .translate .dstData [] ({ eva := 0x1234567ABC, off := 0, len := 4 } :: []) ∧
       (s.lane 0).failure = none) ∧
    (let s := overdue (walked 4)
     s.nextDue = some (.busTimeout .walker) ∧
       s.walker.map (·.phase) = some (.exchanging 3 0x300B38 0x8765400F 0x8765406F) ∧
       s.walker.map (·.walk.stale) = some false ∧ s.walker.map (·.walk.requests) = some [exampleRequest] ∧
       Permitted 0x8765400F exampleRequest ∧
       (s.lane 0).cursor = .translate .dstData [] ({ eva := 0x1234567ABC, off := 0, len := 4 } :: []) ∧
       (s.lane 0).failure = none) ∧
    (∀ n ∈ [1, 4],
      let s := overdue (staled (walked n))
      s.nextDue = some (.busTimeout .walker) ∧ s.walker.map (·.walk.stale) = some true) ∧
    (let s := overdue fetching
     s.nextDue = some (.busTimeout (.ring 0 0)) ∧ (s.chan 0).ring[0]? = some { orderRead with age := 1000 } ∧
       orderRead.kind = .read ∧ orderRead.live = true ∧ (s.chan 0).state = .fetching) ∧
    (let s := overdue completing
     s.nextDue = some (.busTimeout (.ring 0 0)) ∧ (s.chan 0).ring[0]? = some { recordWrite with age := 1000 } ∧
       recordWrite.kind = .write 0 ∧ recordWrite.live = true ∧ (s.chan 0).state = .completing) := by
  unfold Permitted
  decide +kernel

/-- A WAIT of channel c on channel t, with QUIET clear. -/
def waitOrder (t threshold timeout : Nat) : BitVec 512 :=
  order 5 0 0 0 0 0 0 0 0 (t + threshold * 2 ^ 32 + timeout * 2 ^ 64)

/-- Channel 0 in SYNC_WAIT on channel 1 with threshold 5 and an expired timeout of 3; channel 1's counter as given. -/
def waiting (mark : BitVec 32) (agenda : List FollowOn) : State :=
  let s := inState .syncWait fun ch =>
    { ch with
      order := some (waitOrder 1 5 3)
      wait := some { target := 1, threshold := 5, timeout := 3, ticks := 3 } }
  { s.modChan 1 fun ch => { ch with mark := mark } with agenda := agenda }

/-- The same with QUIET set. -/
def waitingQuiet (mark : BitVec 32) (agenda : List FollowOn) : State :=
  (waiting mark agenda).modChan 0 fun ch => { ch with order := some (waitOrder 1 5 3 ||| 0x100#512) }

theorem witness_WaitsResolveWithTheCounter :
    (∀ m a, ((waiting m a).chan 0).wait = some { target := 1, threshold := 5, timeout := 3, ticks := 3 } ∧
      ((waiting m a).chan 0).order = some (waitOrder 1 5 3)) ∧
    ((waiting 5 [.waits 1]).nextDue = some (.waitSatisfied 0) ∧ ordQuiet (waitOrder 1 5 3) = false) ∧
    ((waiting 4 [.expiries]).nextDue = some (.waitTimeout 0) ∧ waitMet 4 5 = false) ∧
    ((waiting 5 [.expiries]).nextDue = some (.waitTimeout 0) ∧ waitMet 5 5 = true) ∧
    ((waitingQuiet 5 [.waits 1]).nextDue = some (.waitSatisfied 0) ∧
      (waitingQuiet 5 [.expiries]).nextDue = some (.waitTimeout 0) ∧
      ((waitingQuiet 5 []).chan 0).order = some (waitOrder 1 5 3 ||| 0x100#512) ∧
      ((waitingQuiet 5 []).chan 0).wait.isSome = true ∧ ordQuiet (waitOrder 1 5 3 ||| 0x100#512) = true) :=
  ⟨fun _ _ => ⟨rfl, rfl⟩, by decide +kernel, by decide +kernel, by decide +kernel, by decide +kernel⟩

/-- Three WAITs on channel 3 in DOZE; channel 1's is quiet, and channel 1 has a second order in its ring. -/
def threeWaits : State :=
  let wait (flags : Nat) (ch : Channel) : Channel :=
    { ch with
      state := .syncWait, sqTail := 2, order := some (order 5 flags 0 0 0 0 0 0 0 (3 + 5 * 2 ^ 32))
      wait := some { target := 3, threshold := 5, timeout := 0 } }
  let s := ((bench.setChan 1 (bench.chan 0)).setChan 2 (bench.chan 0)).modChan 0 (wait 0)
  { (s.modChan 1 (wait 1)).modChan 2 (wait 0) with power := .doze, dozeReq := true }

/-- The first steps a state takes by itself. -/
def steps : Nat → State → List Due
  | 0, _ => []
  | n + 1, s =>
    match s.nextDue with
    | some d => d :: steps n (s.take d)
    | none => []

theorem test_no_fetch_between_the_evaluations_of_one_mark_set :
    steps 7 (nextOf threeWaits (.markSet 3 5)) =
      [.waitSatisfied 0, .wake, .record 0, .waitSatisfied 1, .waitSatisfied 2, .record 2] := by decide +kernel

theorem witness_CoalescingRaisesDone :
    let s := chan0 fun ch =>
      { ch with coalesceCount := 2, coalesceTimer := some { length := 50, ticks := 50 }, cfg := { ch.cfg with threshold := 4 } }
    let t := { s with agenda := [.expiries] }
    t.operating = true ∧ t.nextDue = some (.timer 0) ∧
      (s.chan 0).coalesceCount.toNat + 1 < max 1 (s.chan 0).cfg.threshold.toNat ∧
      max 1 (bench.chan 0).cfg.threshold.toNat ≤ (bench.chan 0).coalesceCount.toNat + 1 := by decide +kernel

theorem witness_FetchStartsWhenASlotIsFree :
    let ready (s : State) : Prop := s.isSettled = true ∧ s.operating = true ∧ s.power = .run
    let free (s : State) : Prop :=
      ((s.chan 0).cqTail - (s.chan 0).cqHead).toNat < 2 ^ (s.chan 0).cfg.cqSize.toNat
    (let s := chan0 fun ch => { ch with sqTail := 1, cqTail := 3 }
     ready s ∧ (s.chan 0).state = .idle ∧ (s.chan 0).sqHead ≠ (s.chan 0).sqTail ∧ free s) ∧
    (let s := chan0 fun ch => { ch with sqTail := 1, cqTail := 4 }
     ready s ∧ (s.chan 0).state = .idle ∧ (s.chan 0).sqHead ≠ (s.chan 0).sqTail ∧ ¬free s) ∧
    (let s := chan0 fun ch => { ch with state := .waitingSlot, sqTail := 1, cqTail := 3 }
     ready s ∧ (s.chan 0).state = .waitingSlot ∧ free s) := by decide +kernel

theorem witness_RingTransactionsAreIssuedAtTheirSlots :
    (let s := { inState .fetching with agenda := [.issue 0] }
     s.agenda = .issue 0 :: [] ∧ s.operating = true ∧ (∀ x ∈ (s.chan 0).ring, x.live = false) ∧ s.power = .run ∧
       (s.chan 0).state = .fetching) ∧
    (let s := { inState .completing with agenda := [.issue 0] }
     s.agenda = .issue 0 :: [] ∧ s.operating = true ∧ (∀ x ∈ (s.chan 0).ring, x.live = false) ∧ s.power ≠ .doze ∧
       (s.chan 0).state = .completing) := by decide +kernel

theorem witness_CompletionRecordHasItsFields :
    (completing.chan 0).order = some move2 ∧ (completing.chan 0).status ≠ .faultUnresolved ∧
      (completing.chan 0).status ∉ [Status.invalidKind, .reservedNonzero, .invalidField, .denied] ∧
      orderKind move2 ≠ some .digest ∧ orderKind (order 3 0 0 1 0 0 0 0 0 1) = some .digest := by decide +kernel

/-- A NOTE, quiet or not. -/
def note (quiet : Bool) : BitVec 512 := order 6 quiet.toNat 0 0 0 0 0 0 0 0

/-- The hypotheses on a channel 0 that takes the answer to its order read. -/
def takesOrder (s : State) : Prop :=
  let u := s.settled
  u.operating = true ∧ (u.chan 0).ring[0]? = some orderRead ∧ orderRead.kind = .read ∧ orderRead.live = true ∧
    (u.chan 0).state = .fetching

theorem fetching_takes_an_order : takesOrder fetching := by
  unfold takesOrder
  decide +kernel

theorem witness_ValidationTakesTheFirstFailingCheck :
    (∀ kind ∈ [0, 7, 255], ¬(1 ≤ kind ∧ kind ≤ 6)) ∧ ((order 1 4 0 0 0 0 0 0 0 0).extractLsb' 10 6 ≠ 0#6) ∧
    (orderKind (note false) = some .note ∧ reservedNonzero .note (note false) = false ∧
      invalidField .note (note false) = false) ∧
    (orderKind (order 6 0 0 1 0 0 0 0 0 0) = some .note ∧ reservedNonzero .note (order 6 0 0 1 0 0 0 0 0 0) = true) ∧
    (orderKind (waitOrder 8 0 0) = some .wait ∧ reservedNonzero .wait (waitOrder 8 0 0) = false ∧
      invalidField .wait (waitOrder 8 0 0) = true) ∧
    (∀ t ∈ [3, 7], orderKind (waitOrder t 0 0) = some .wait ∧ reservedNonzero .wait (waitOrder t 0 0) = false ∧
      invalidField .wait (waitOrder t 0 0) = false ∧ ((waitOrder t 0 0).extractLsb' 384 8).toNat = t ∧
      t ≠ (1 : ChanNo).val ∧ (5#8).getLsbD t = false) ∧
    takesOrder fetching ∧ validate 0 (fetching.settled.chan 0).cfg.waitMask (order 0 0 0 0 0 0 0 0 0 0) ≠ .ok :=
  ⟨by decide, by decide +kernel, by decide +kernel, by decide +kernel, by decide +kernel, by decide +kernel,
    fetching_takes_an_order, by decide +kernel⟩

theorem witness_ValidOrdersLeaveFetchingByKind :
    takesOrder fetching ∧
    ([note false, note true, move2, order 1 0 0 0 0 0 0 0 0 0, order 3 0 0 1 0 0 0 0 0 0xFFFFFFFF].all fun o =>
      validate 0 (fetching.settled.chan 0).cfg.waitMask o == .ok) = true ∧
    ((note false).getLsbD 8 = false ∧ (note true).getLsbD 8 = true ∧ ((note true).extractLsb' 0 8).toNat = 6) ∧
    ((move2.extractLsb' 0 8).toNat ≤ 3 ∧ (move2.extractLsb' 32 32).toNat ≠ 0) ∧
    (let o := order 2 1 0 0 0 0 0 0 0 0
     validate 0 (fetching.settled.chan 0).cfg.waitMask o = .ok ∧ (o.extractLsb' 0 8).toNat ≤ 3 ∧
       (o.extractLsb' 32 32).toNat = 0 ∧ o.getLsbD 8 = true) :=
  ⟨fetching_takes_an_order, by decide +kernel, by decide +kernel, by decide +kernel, by decide +kernel⟩

theorem witness_MarkAddsToItsCounter :
    takesOrder fetching ∧ ∀ quiet : Bool,
      let o := order 4 quiet.toNat 0 0 0 0 0 0 0 0xFFFF
      validate 0 (fetching.settled.chan 0).cfg.waitMask o = .ok ∧ (o.extractLsb' 0 8).toNat = 4 ∧ o.getLsbD 8 = quiet :=
  ⟨fetching_takes_an_order, by decide +kernel⟩

/-- Channel 0 FETCHING, permitted to wait on channel 1. -/
def fetchingWait : State := fetching.modChan 0 fun ch => { ch with cfg := { ch.cfg with waitMask := 2 } }

theorem witness_WaitIsEvaluatedOnEntry :
    takesOrder fetchingWait ∧
    (∀ x ∈ [((1 : ChanNo), 0), (1, 0x80000001), (0, 1), (1, 1), (1, 0x80000000)],
      let o := waitOrder x.1.val x.2 0
      validate 0 (fetchingWait.settled.chan 0).cfg.waitMask o = .ok ∧ (o.extractLsb' 0 8).toNat = 5 ∧
        (o.extractLsb' 384 8).toNat = x.1.val ∧ o.getLsbD 8 = false) ∧
    (let o := waitOrder 1 0x80000001 0 ||| 0x100#512
     validate 0 (fetchingWait.settled.chan 0).cfg.waitMask o = .ok ∧ (o.extractLsb' 0 8).toNat = 5 ∧
       (o.extractLsb' 384 8).toNat = 1 ∧ o.getLsbD 8 = true ∧ o.extractLsb' 416 32 = 0x80000001#32) ∧
    (let m := (fetchingWait.settled.chan 1).mark
     0 ≤ (m - 0#32).toInt ∧ 0 ≤ (m - 0x80000001#32).toInt ∧ (m - 0x80000000#32).toInt < 0 ∧ (m - 1#32).toInt < 0) :=
  ⟨by unfold takesOrder; decide +kernel, by decide +kernel, by decide +kernel, by decide +kernel⟩

theorem witness_FailedOrderReadRingFaults :
    takesOrder fetching ∧
    (let u := (nextOf fetching (.cmdPause 0 .chCmd)).settled
     u.operating = true ∧ (u.chan 0).ring[0]? = some { orderRead with live := false } ∧ orderRead.kind = .read) :=
  ⟨fetching_takes_an_order, by decide +kernel⟩

theorem witness_RecordResponseFinishesOrWedges :
    (let u := completing.settled
     u.operating = true ∧ (u.chan 0).ring[0]? = some recordWrite ∧ recordWrite.kind = .write 0 ∧
       recordWrite.live = true ∧ (u.chan 0).state = .completing) ∧
    (let u := (nextOf completing (.cmdReset 0)).settled
     u.operating = true ∧ (u.chan 0).ring[0]? = some { recordWrite with live := false }) := by decide +kernel

theorem test_event_counts_the_record_toward_done :
    let t := nextOf (completing fun ch => { ch with order := some (order 6 2 0 0 0 0 0 0 0 0) }) (.completionWriteResponse 0 0 true)
    (t.chan 0).evtPending = 0x01 ∧ (t.chan 0).state = .idle ∧ (t.chan 0).sqHead = 1 := by decide +kernel

theorem witness_GrantFollowsClassAndRoundRobin : aging.nextDue = some .grant := by decide +kernel

theorem witness_BeatsStartAtTheProgressCount :
    (let s := nextOf (fetched move2) .laneGrant
     s.nextDue = some (.takeover 0) ∧ (s.lane 0).owner = some 0 ∧ (s.chan 0).order = some move2) ∧
    (after moving [.laneReadResponse 0 0 (some 0x11), .laneReadResponse 0 0 (some 0x22)]).nextDue = some (.beat 0) ∧
    (let o := order 2 0 0 40 0 0 0 0 0 0x10000000000000007
     (let s := nextOf (fetched o) .laneGrant
      s.nextDue = some (.takeover 0) ∧ (s.chan 0).order = some o ∧ (o.extractLsb' 0 8).toNat = 2) ∧
     (let s := (inState .running).setLane 0
        { state := .writing, owner := some 0, order := o, slots := [writeSlot, writeSlot], place := 2
          progress := { count := 2 } }
      s.nextDue = some (.beat 0) ∧ ((s.lane 0).order.extractLsb' 0 8).toNat = 2)) := by
  decide +kernel

/-- A MOVE of two U8 elements with an INDEXED source of a pointer width and an INDEXED destination. -/
def gather (width : Nat) : BitVec 512 :=
  order 1 0 0 2 0 0 0 (walk 0x1000 3 0 width 0 0x20 0) (walk 0x3000 3 0 width 0 0x20 0) 0

/-- The pointer read of its first position. -/
def pointerRead (k : AccessKind) (width : Nat) : LaneTxn :=
  { txnAt k 0x1000 0 with portion := { eva := 0x1000, off := 0, len := 2 * 2 ^ width } }

/-- Lane 0 waiting for that pointer, in space 5, which is TRANSLATED. -/
def pointing (st : LaneState) (k : AccessKind) (width : Nat) : State :=
  let s := ((inState .running).setSpace 5 { mode := 2 }).modChan 0 fun ch => { ch with order := some (gather width) }
  s.setLane 0
    { state := st, owner := some 0, order := gather width, sid := 5, slots := [{}, {}], cursor := .pointer, ptrLeft := 1
      txns := [pointerRead k width] }

/-- The statement's element address, for a pointer read that gives v. -/
def elementAddress (w : BitVec 128) (v : BitVec 64) : Int :=
  let disp := (w.extractLsb' 64 32).toInt
  if walkPtrWidth w = 0#2 then ((w.extractLsb' 96 24).toNat : Int) * 2 ^ 16 + ((v.toNat % 2 ^ 16 : Nat) + disp) % 2 ^ 16
  else if walkPtrWidth w = 1#2 then
    ((w.extractLsb' 96 8).toNat : Int) * 2 ^ 32 + ((v.toNat % 2 ^ 32 : Nat) + disp) % 2 ^ 32
  else v.toInt + disp

theorem witness_PointerReadFormsTheElementAddress :
    (∀ x ∈ [(LaneState.reading, AccessKind.srcPointer), (.writing, .dstPointer)], ∀ width ∈ [0, 1, 2],
      let u := (pointing x.1 x.2 width).settled
      (u.lane 0).state = x.1 ∧ (u.lane 0).txns[0]? = some (pointerRead x.2 width) ∧ (pointerRead x.2 width).kind = x.2 ∧
        (pointerRead x.2 width).pos = (u.lane 0).pos ∧ (u.lane 0).failure = none ∧
        (u.lane 0).cursor = .pointer ∧ (u.lane 0).ptrLeft = 1 ∧ (u.lane 0).request = false ∧
        (u.lane 0).place < (u.lane 0).slots.length ∧ (u.space (u.lane 0).sid).mode = 2#2 ∧ u.cache = []) ∧
    (let a := elementAddress (ordSrcWalk (gather 2)) 0x12345
     let e : CacheEntry := { sid := 5, page := 0x12, block := false, frame := 0x87654000, read := true, write := false
                             ownerOnly := false, modKnown := false }
     let u := ({ pointing .reading .srcPointer 2 with cache := [{ e with page := 0x13 }, e] } : State).settled
     a = 0x12365 ∧ a % 4096 + 1 ≤ 4096 ∧
       u.cache.find? (fun f => servedBy f (u.lane 0).sid (BitVec.ofInt 40 a) false (u.lane 0).trust) = some e ∧
       (u.lane 0).cursor = .pointer ∧
       ∀ f ∈ u.cache, servedBy f (u.lane 0).sid (BitVec.ofInt 40 a) true (u.lane 0).trust = false) ∧
    (let u := ((pointing .reading .srcPointer 2).setSpace 5 { mode := 1 }).settled
     (u.lane 0).cursor = .pointer ∧ (u.space (u.lane 0).sid).mode = 1#2) ∧
    (let a := elementAddress (ordSrcWalk (gather 2)) 0xFFFFFFFFDF
     0 ≤ a ∧ a + 1 ≤ 2 ^ 40) ∧
    (∀ n ∈ [0xFFFFFFFFE0, 0xFFFFFFFFFFFFFFDF],
      let a := elementAddress (ordSrcWalk (gather 2)) (BitVec.ofNat 64 n)
      ¬(0 ≤ a ∧ a + 1 ≤ 2 ^ 40)) := by
  decide +kernel

/-- Lane 0 in its read phase with another order. -/
def readingFor (o : BitVec 512) : State :=
  (reading.modChan 0 fun ch => { ch with order := some o }).modLane 0 fun x => { x with order := o }

/-- A DIGEST of two U8 elements. -/
def digest2 : BitVec 512 := order 3 0 0 2 0 0 0 (walk 0x1000 0 0 0 0 0 0) 0 0

/-- A MOVE of two elements from U8 to S8 that saturates and is strict about it. -/
def strict2 : BitVec 512 := order 1 0 0x410 2 0 0 2 (walk 0x1000 0 0 0 0 0 0) (walk 0x2000 0 0 0 0 0 0) 0

/-- A DIGEST of two elements from U8 to S8 that saturates and is strict about it. -/
def strictDigest2 : BitVec 512 := order 3 0 0x410 2 0 0 2 (walk 0x1000 0 0 0 0 0 0) 0 0

/-- Lane 0 at position 1 of a DIGEST: position 0 is counted, the read of position 1 outstanding. -/
def secondOf (o : BitVec 512) : State :=
  (readingFor o).modLane 0 fun x =>
    { x with
      slots := [{ readsLeft := some 0, isShaped := true }, { readsLeft := some 1 }]
      txns := [txnAt .srcData 0x1000 1], progress := { count := 1, digestA := 7, digestB := 7 } }

theorem test_strict_digest_keeps_the_counted_progress :
    let x := (nextOf (secondOf strictDigest2) (.laneReadResponse 0 0 (some 0xFF))).lane 0
    x.failure = some { pos := 1, portion := 0, fault := none } ∧
      x.progress = { count := 1, digestA := 7, digestB := 7 } := by decide +kernel

theorem test_digest_folds_at_the_progress_count :
    let t := nextOf (readingFor digest2) (.laneReadResponse 0 0 (some 7))
    (t.lane 0).progress = { count := 1, digestA := 7, digestB := 7 } := by decide +kernel

theorem witness_LaneAnswersFillAndCountPositions :
    (∀ x ∈ [reading.settled.lane 0, (draining reading).settled.lane 0],
      x.txns[0]? = some (txnAt .srcData 0x1000 0) ∧ x.failure = none ∧ x.slots.length ≤ x.place) ∧
    (∀ x ∈ [writing.settled.lane 0, (draining writing).settled.lane 0],
      x.txns[0]? = some (txnAt .dstData 0x2000 0) ∧ x.failure = none ∧ x.slots.length ≤ x.place ∧
        (x.order.extractLsb' 0 8).toNat ≠ 3 ∧ x.progress.count = 0 ∧ x.beatStart = 0 ∧
        x.slots[0]? = some writeSlot ∧ x.slots[1]? = some writeSlot) ∧
    (writeSlot.writesLeft = some 1 ∧ writeSlot.shaped.isSome = true) ∧
    (∀ x ∈ [(readingFor digest2).settled.lane 0, (readingFor strict2).settled.lane 0],
      x.txns[0]? = some (txnAt .srcData 0x1000 0) ∧ x.state = .reading ∧ x.failure = none ∧
        x.slots.length ≤ x.place ∧ x.beatStart = 0 ∧ x.progress.count = 0 ∧
        x.slots = [{ readsLeft := some 1 }, { readsLeft := some 1 }]) ∧
    (let x := (secondOf strictDigest2).settled.lane 0
     x.txns[0]? = some (txnAt .srcData 0x1000 1) ∧ x.state = .reading ∧ x.failure = none ∧ x.slots.length ≤ x.place ∧
       x.beatStart = 0 ∧ x.progress.count = 1 ∧
       x.slots = [{ readsLeft := some 0, isShaped := true }, { readsLeft := some 1 }] ∧ x.order = strictDigest2 ∧
       (strictDigest2.extractLsb' 0 8).toNat = 3 ∧ strictDigest2.getLsbD 105 = true ∧
       (shapeElement strictDigest2 0xFF).flags.saturated = true ∧
       (shapeElement strictDigest2 0x7F).flags.saturated = false) ∧
    ((digest2.extractLsb' 0 8).toNat = 3 ∧ (shapeElement strict2 0xFF).flags.saturated = true ∧
      strict2.getLsbD 105 = true) ∧
    (reading.settled.lane 0).state = .reading ∧ ((draining reading).settled.lane 0).state = .draining ∧
    (writing.settled.lane 0).state = .writing ∧ ((draining writing).settled.lane 0).state = .draining := by
  decide +kernel

theorem witness_OrdersLeaveTheirLanes :
    (∀ s ∈ [writing, reading], (s.lane 0).owner = some 0 ∧ (s.chan 0).order = some move2) ∧
    (let s := after writing [.laneWriteResponse 0 0 true, .laneWriteResponse 0 0 true]
     s.nextDue = some (.orderEnd 0) ∧ (s.lane 0).ending = some (.order .ok) ∧ ordQuiet move2 = false) ∧
    (let o := move2 ||| 0x100#512
     let s := (writing.modChan 0 fun ch => { ch with order := some o }).modLane 0 fun x => { x with order := o }
     let s := after s [.laneWriteResponse 0 0 true, .laneWriteResponse 0 0 true]
     s.nextDue = some (.orderEnd 0) ∧ (s.lane 0).ending = some (.order .ok) ∧ ordQuiet o = true ∧ s.operating = true ∧
       (s.lane 0).owner = some 0 ∧ (s.chan 0).order = some o) ∧
    (let s := after reading [.laneReadResponse 0 0 none, .laneReadResponse 0 0 (some 1)]
     s.nextDue = some (.handover 0) ∧
       (s.lane 0).ending = some (.handover
         { cause := .busErrorData, access := .srcData, level := 0, element := 0, addr := 0x1000, entry := 0 }) ∧
       s.operating = true) ∧
    (let s := after reading [.cmdAbort 0 .chCmd, .laneReadResponse 0 0 none, .laneReadResponse 0 0 none]
     s.nextDue = some (.drainEnd 0) ∧ s.power ≠ .resetting ∧ (s.chan 0).state = .running) ∧
    (∀ i ∈ [Instr.cmdReset 0, .softReset true true],
      let s := after reading [i, .laneReadResponse 0 0 none, .laneReadResponse 0 0 none]
      s.nextDue = some (.drainEnd 0) ∧ (s.power = .resetting ∨ (s.chan 0).state ≠ .running) ∧
        (s.lane 0).owner = some 0 ∧ (s.chan 0).order = some move2) := by decide +kernel

/-- The walk of the example after some compare failures, its requests abandoned or not. -/
def contended (fails : Nat) (gone : Bool) : State :=
  { walked 4 with
    walker := (walked 4).walker.map fun w =>
      { w with
        walk := { w.walk with compareFails := fails, requests := w.walk.requests.map fun r => { r with abandoned := gone } } } }

/-- The example's space with FLAG_UPDATE 0. -/
def flagsOff (s : State) : State := s.setSpace 5 { s.space 5 with flagUpdate := false }

/-- The example's walk before its leaf, its request a read or a write, from an owner or a guest. -/
def requesting (write trust : Bool) : State :=
  { walked 3 with
    walker := (walked 3).walker.map fun w =>
      { w with walk := { w.walk with requests := w.walk.requests.map fun r => { r with write := write, trust := trust } } } }

theorem witness_WalksReadLevelByLevel :
    (let s := walking
     let w : Walk := { sid := 5, page := 0x1234567, requests := [exampleRequest] }
     s.nextDue = some .walk ∧ s.walkQueue = w :: [] ∧ w.requests ≠ [] ∧
       ∀ r ∈ w.requests, lookupCache s.cache w.sid r = none) ∧
    (∀ x ∈ [(1, 0x100240#44), (2, 0x200D10#44), (3, 0x300B38#44)],
      let u := (walked x.1).settled
      u.power ≠ .resetting ∧ u.walker.map (·.phase) = some (.reading x.1 x.2) ∧
        u.walker.map (·.walk.requests) = some [exampleRequest] ∧ u.walker.map (·.walk.stale) = some false ∧
        (u.lane 0).cursor = .translate .dstData [] ({ eva := 0x1234567ABC, off := 0, len := 4 } :: []) ∧
        (u.lane 0).failure = none ∧ (u.space 5).flagUpdate = true) ∧
    (staled (walked 3)).settled.walker.map (·.walk.stale) = some true ∧
    (0x200001#64 &&& 0xFFFFF00000000FFF#64 = 1#64 ∧ (0#64).getLsbD 0 = false) := by decide +kernel

theorem witness_WalksReadLevelByLevel_at_leaves :
    (let u := (flagsOff (walked 3)).settled
     u.walker.map (·.phase) = some (.reading 3 0x300B38) ∧ (u.space 5).flagUpdate = false ∧
       u.walker.map (·.walk.requests) = some [exampleRequest]) ∧
    (∀ x ∈ [(false, true), (true, false), (false, false)],
      let s := requesting x.1 x.2
      s.settled.walker.map (·.phase) = some (.reading 3 0x300B38) ∧
        s.settled.walker.map (fun w => w.walk.requests.map fun r => (r.write, r.trust, r.abandoned)) =
          some [(x.1, x.2, false)]) ∧
    (let y := (walked 3).settled.lane 0
     y.state = .writing ∧ y.place < y.slots.length) := by decide +kernel

theorem witness_WalksReadLevelByLevel_malformed :
    (∀ x ∈ [(0x300081#64, 2), (3, 1), (1, 3), (0x201003, 2), (5, 2)],
      x.1.getLsbD 0 = true ∧ MalformedAt x.1 x.2) := by
  unfold MalformedAt
  decide +kernel

theorem witness_WalksReadLevelByLevel_leaves :
    (∀ e ∈ [0x8765400F, 0x8765406F, 0x8765406B, 0x87654067, 0x8765407F, 0x8765402F], LeafAt (BitVec.ofNat 64 e) 3) ∧
    (∀ e ∈ [0x8760000F, 0x8760006F], LeafAt (BitVec.ofNat 64 e) 2) ∧
    ((0x8765406B#64).getLsbD 2 = false ∧ (0x87654067#64).getLsbD 3 = false ∧ (0x8765407F#64).getLsbD 4 = true) ∧
    (exampleRequest.trust = true ∧ exampleRequest.write = true ∧ exampleRequest.abandoned = false) ∧
    (∀ e ∈ [0x8765400F, 0x8760000F],
      Permitted (BitVec.ofNat 64 e) exampleRequest ∧ LacksFlags (BitVec.ofNat 64 e) exampleRequest) ∧
    (∀ e ∈ [0x8765406F, 0x8760006F],
      Permitted (BitVec.ofNat 64 e) exampleRequest ∧ ¬LacksFlags (BitVec.ofNat 64 e) exampleRequest) := by
  unfold LeafAt Permitted LacksFlags
  decide +kernel

theorem test_faults_at_a_leaf :
    let cause (s : State) (e : BitVec 64) : Option (Cause × BitVec 2 × Pa) :=
      ((nextOf s (.tableReadResponse (some e))).lane 0).failure.bind fun f => f.fault.map fun i => (i.cause, i.level, i.entry)
    cause (requesting true false) 0x8765407F = some (.ownerOnly, 3, 0x300B38) ∧
      cause (requesting false true) 0x8765406B = some (.readDenied, 3, 0x300B38) ∧
      cause (walked 3) 0x87654067 = some (.writeDenied, 3, 0x300B38) ∧
      cause (flagsOff (walked 3)) 0x8765402F = some (.flagClear, 3, 0x300B38) := by decide +kernel

theorem test_block_leaf_keeps_21_bits_of_the_address :
    ((nextOf (walked 2) (.tableReadResponse (some 0x8760006F))).lane 0).txns.map (·.pa) = [0x87767ABC] := by decide +kernel

theorem witness_ExchangeFailuresRestartTheWalk :
    (∀ x ∈ [(0, false), (2, false), (3, false), (3, true), (4, true)],
      let u := (contended x.1 x.2).settled
      u.power ≠ .resetting ∧ u.walker.map (·.phase) = some (.exchanging 3 0x300B38 0x8765400F 0x8765406F) ∧
        u.walker.map (fun w => (w.walk.stale, w.walk.compareFails)) = some (false, x.1) ∧
        u.walker.map (fun w => w.walk.requests.map (·.abandoned)) = some [x.2]) ∧
    (let u := (contended 3 false).settled
     let y := u.lane 0
     u.walker.map (·.walk.requests) = some [exampleRequest] ∧ Permitted 0x8765400F exampleRequest ∧
       Permitted 0x8765406F exampleRequest ∧ y.failure = none ∧ y.state = .writing ∧
       y.place < y.slots.length ∧ y.cursor = .translate .dstData [] ({ eva := 0x1234567ABC, off := 0, len := 4 } :: [])) ∧
    (staled (contended 0 false)).settled.walker.map (fun w => (w.walk.stale, w.phase)) =
      some (true, .exchanging 3 0x300B38 0x8765400F 0x8765406F) ∧
    Permitted 0x8765406F { exampleRequest with abandoned := true } := by
  unfold Permitted
  decide +kernel

theorem witness_EngineStepsTakeTheirMoment :
    (nextOf bench (.invalGo 0 0)).nextDue = some .invalDone ∧
    (nextOf bench (.dozeReqSet false)).nextDue = some .dozeEntered ∧
    ({ dozing false with agenda := [.wake] } : State).nextDue = some .wake := by decide +kernel

theorem witness_AddressesStayInTheirWindowAndPortionsInTheirPage :
    (∀ mode ∈ [0, 1, 2, 3], ∀ width ∈ [0, 1, 2],
      let w := BitVec.ofNat 128 (walk 0x100 mode 1 width 0 4 3)
      w.extractLsb' 40 2 = BitVec.ofNat 2 mode ∧ w.extractLsb' 44 2 = BitVec.ofNat 2 width) ∧
    walkConfine (BitVec.ofNat 128 (walk 0x100 1 0 0 0 4 0)) = 0#8 ∧
    (∀ j ∈ [(1, 8), (2, 12), (3, 16), (4, 20), (5, 24)],
      walkConfine (BitVec.ofNat 128 (walk 0x100 1 0 0 j.1 4 0)) = BitVec.ofNat 8 j.1) ∧
    (∀ x ∈ [(0, 1), (4095, 2), (4096, 8), (2 ^ 40 - 8, 8)], 1 ≤ x.2 ∧ x.2 ≤ 8 ∧ x.1 + x.2 ≤ 2 ^ 40) ∧
    portionsOf 4095 2 = [{ eva := 4095, off := 0, len := 1 }, { eva := 4096, off := 1, len := 1 }] := by decide +kernel

theorem witness_NonNegativeScaleIsExact :
    (0 : Int) ≤ 0 ∧ (0 : Int) ≤ 63 ∧
    (∀ f ∈ [0, 1, 6, 7], ∀ swap ∈ [0, 2 ^ 11, 2 ^ 12, 2 ^ 11 + 2 ^ 12],
      let o := order 1 0 (f + 16 * f + swap) 1 0 0 0 0 0 0
      ordScale o = 0 ∧ ordSrcFmt o = ordDstFmt o ∧ (ordSrcFmt o).toNat < 8 ∧
        (ordSrcSwap o = ordDstSwap o ↔ swap = 0 ∨ swap = 2 ^ 11 + 2 ^ 12)) := by decide +kernel

theorem witness_NegativeScaleRoundsByMode :
    1 ≤ 1 ∧ 1 ≤ 64 ∧ ((2 : Int) ^ 1 ∣ 6) ∧ ¬((2 : Int) ^ 1 ∣ 5) := by decide

theorem witness_RangeStepSaturatesOrWraps :
    (0#4).toNat < 8 ∧ (7#4).toNat < 8 ∧
    (let m : Int := 2 ^ (8 * fmtSize 1)
     (-(m / 2) ≤ -128) ∧ (127 : Int) ≤ m / 2 - 1 ∧ -129 < -(m / 2) ∧ m / 2 - 1 < 128) := by decide +kernel

theorem witness_EveryCommandKeeps :
    Safety.safe moving = true ∧ ∃ t, exec (.cmdAbort 0 .chCmd) moving = .next t := ⟨by decide +kernel, _, rfl⟩

end Sys2Proof.Tests
end

section
/-! SUPPORT. No operation of the model touches the queue of waiting commands (notes/assumptions/1.md): one lemma per
operation, in the order of the definitions. Where the operation has a frame lemma, that lemma is cited. -/

namespace Sys2Proof.Machine

/-! ## Shared operations -/

theorem foldl_pending {α : Type} {f : State → α → State} (h : ∀ s a, (f s a).pending = s.pending) (as : List α)
    (s : State) : (as.foldl f s).pending = s.pending := by
  induction as generalizing s with
  | nil => rfl
  | cons a as ih => rw [List.foldl_cons, ih, h]

@[simp] theorem modChannels_pending (s : State) (f : Channel → Channel) : (s.modChannels f).pending = s.pending :=
  foldl_pending (fun s c => modChan_pending s c f) _ s

@[simp] theorem modLanes_pending (s : State) (f : Lane → Lane) : (s.modLanes f).pending = s.pending :=
  foldl_pending (fun s l => modLane_pending s l f) _ s

@[simp] theorem raise_pending (s : State) (c : ChanNo) (causes : BitVec 7) : (s.raise c causes).pending = s.pending := by
  simp [raise_eq]

@[simp] theorem raiseGlobal_pending (s : State) (causes : BitVec 4) : (s.raiseGlobal causes).pending = s.pending := by
  simp [raiseGlobal_eq]

@[simp] theorem reportDone_pending (s : State) (c : ChanNo) : (s.reportDone c).pending = s.pending := by
  simp [State.reportDone]

@[simp] theorem tell_pending (s : State) (c : ChanNo) (n : Notice) : (s.tell c n).pending = s.pending := by
  obtain ⟨_, _, _, h⟩ := tell_frame s c n
  simp [h]

@[simp] theorem refuse_pending (s : State) (reason : BitVec 3) (off : BitVec 16) :
    (s.refuse reason off).pending = s.pending := by
  simp [State.refuse]

@[simp] theorem stopChannel_pending (s : State) (c : ChanNo) : (s.stopChannel c).pending = s.pending := by
  simp [State.stopChannel]

@[simp] theorem enterFetching_pending (s : State) (c : ChanNo) : (s.enterFetching c).pending = s.pending := by
  unfold State.enterFetching
  dsimp only
  split <;> simp

@[simp] theorem finishOrder_pending (s : State) (c : ChanNo) : (s.finishOrder c).pending = s.pending := by
  simp [State.finishOrder]

@[simp] theorem enterCompleting_pending (s : State) (c : ChanNo) (status : Status) (result : BitVec 32) :
    (s.enterCompleting c status result).pending = s.pending := by
  obtain ⟨_, _, _, h⟩ | h | h := enterCompleting_cases s c status result <;> simp [h]

@[simp] theorem enterFaulted_pending (s : State) (c : ChanNo) (f : FaultInfo) :
    (s.enterFaulted c f).pending = s.pending := by
  simp [State.enterFaulted]

@[simp] theorem enterWedged_pending (s : State) (c : ChanNo) (cause : Cause) (addr : Pa) :
    (s.enterWedged c cause addr).pending = s.pending := by
  simp [State.enterWedged]

@[simp] theorem setMark_pending (s : State) (c : ChanNo) (v : BitVec 32) : (s.setMark c v).pending = s.pending := rfl

@[simp] theorem wakeUp_pending (s : State) : s.wakeUp.pending = s.pending := by
  simp [wakeUp_eq]

/-! ## Invalidation and lanes -/

@[simp] theorem startInvalidation_pending (s : State) : s.startInvalidation.pending = s.pending := by
  simp [State.startInvalidation]

@[simp] theorem endInvalidation_pending (s : State) : s.endInvalidation.pending = s.pending := by
  simp [State.endInvalidation]

theorem laneFrame_pending {s t : State} {l : LaneNo} (h : LaneFrame s l t) : t.pending = s.pending := by
  obtain ⟨_, _, _, _, _, rfl, -, -⟩ := h
  rfl

@[simp] theorem pump_pending (s : State) (l : LaneNo) : (s.pump l).pending = s.pending :=
  laneFrame_pending (pump_frame s l)

@[simp] theorem laneTakeover_pending (s : State) (l : LaneNo) : (s.laneTakeover l).pending = s.pending := by
  unfold State.laneTakeover
  split <;> simp

@[simp] theorem laneBeat_pending (s : State) (l : LaneNo) : (s.laneBeat l).pending = s.pending := by
  simp [State.laneBeat]

@[simp] theorem releaseLane_pending (s : State) (l : LaneNo) : (s.releaseLane l).pending = s.pending := by
  simp [releaseLane_eq]

@[simp] theorem returnProgress_pending (s : State) (l : LaneNo) (c : ChanNo) :
    (s.returnProgress l c).pending = s.pending := rfl

@[simp] theorem laneOrderEnd_pending (s : State) (l : LaneNo) (status : Status) :
    (s.laneOrderEnd l status).pending = s.pending := by
  unfold State.laneOrderEnd
  split <;> simp

@[simp] theorem laneHandover_pending (s : State) (l : LaneNo) (f : FaultInfo) :
    (s.laneHandover l f).pending = s.pending := by
  unfold State.laneHandover
  split <;> simp

@[simp] theorem laneDrainEnd_pending (s : State) (l : LaneNo) : (s.laneDrainEnd l).pending = s.pending := by
  unfold State.laneDrainEnd
  split
  · split <;> simp
  · simp

@[simp] theorem latchLane_pending (s : State) (l : LaneNo) : (s.latchLane l).pending = s.pending := by
  by_cases h : (s.lane l).state.busy = true ∧ (s.lane l).state ≠ .draining
  · obtain ⟨hbusy, hdrain⟩ := h
    obtain ⟨_, _, _, e, -⟩ := latchLane_frame hbusy hdrain
    simp [e]
  · rw [latchLane_idle]
    simpa [Classical.or_iff_not_imp_left] using h

@[simp] theorem laneTxnFails_pending (s : State) (l : LaneNo) (k : Nat) (t : LaneTxn) (cause : Cause) :
    (s.laneTxnFails l k t cause).pending = s.pending := by
  simp [State.laneTxnFails]

@[simp] theorem pointerReadResponse_pending (s : State) (l : LaneNo) (k : Nat) (data : Option (BitVec 64)) :
    (s.pointerReadResponse l k data).pending = s.pending := by
  unfold State.pointerReadResponse
  repeat' split
  all_goals simp

@[simp] theorem laneReadResponse_pending (s : State) (l : LaneNo) (k : Nat) (data : Option (BitVec 64)) :
    (s.laneReadResponse l k data).pending = s.pending := by
  unfold State.laneReadResponse
  repeat' split
  all_goals simp

@[simp] theorem laneWriteResponse_pending (s : State) (l : LaneNo) (k : Nat) (ok : Bool) :
    (s.laneWriteResponse l k ok).pending = s.pending := by
  unfold State.laneWriteResponse
  repeat' split
  all_goals simp

@[simp] theorem grant_pending (s : State) (c : ChanNo) (l : LaneNo) : (s.grant c l).pending = s.pending := by
  simp only [State.grant, setLane_pending]
  exact foldl_pending (fun s d => modChan_pending s d _) _ s

/-! ## The walker -/

@[simp] theorem answerLane_pending (s : State) (a : WalkRequest × Answer) : (s.answerLane a).pending = s.pending := by
  unfold State.answerLane
  repeat' split
  all_goals simp

@[simp] theorem deliver_pending (s : State) (as : Answers) : (s.deliver as).pending = s.pending := by
  unfold State.deliver
  dsimp only
  rw [foldl_pending, foldl_pending answerLane_pending]
  intro s a
  split <;> simp

@[simp] theorem endWalk_pending (s : State) (as : Answers) (entry : Option CacheEntry) :
    (s.endWalk as entry).pending = s.pending := by
  simp [State.endWalk]

@[simp] theorem startAttempt_pending (s : State) (w : Walk) : (s.startAttempt w).pending = s.pending := rfl

@[simp] theorem endAttempt_pending (s : State) (w : Walk) (as : Answers) (entry : Option CacheEntry) :
    (s.endAttempt w as entry).pending = s.pending := by
  unfold State.endAttempt
  split <;> simp

@[simp] theorem atLeaf_pending (s : State) (w : Walk) (e : BitVec 64) (level : Nat) (entry : Pa) :
    (s.atLeaf w e level entry).pending = s.pending := by
  unfold State.atLeaf
  split <;> simp

@[simp] theorem nextLevel_pending (s : State) (w : Walk) (base : Pa) (level : Nat) :
    (s.nextLevel w base level).pending = s.pending := rfl

@[simp] theorem entryRead_pending (s : State) (w : Walk) (level : Nat) (entry : Pa) (e : BitVec 64) :
    (s.entryRead w level entry e).pending = s.pending := by
  unfold State.entryRead
  split <;> simp

@[simp] theorem exchangeDone_pending (s : State) (w : Walk) (level : Nat) (entry : Pa) (new : BitVec 64) :
    (s.exchangeDone w level entry new).pending = s.pending := by
  simp [State.exchangeDone]

@[simp] theorem compareFailed_pending (s : State) (w : Walk) (level : Nat) (entry : Pa) (leaf : BitVec 64) :
    (s.compareFailed w level entry leaf).pending = s.pending := by
  unfold State.compareFailed
  repeat' split
  all_goals simp

@[simp] theorem walkerFails_pending (s : State) (w : Walker) (cause : Cause) :
    (s.walkerFails w cause).pending = s.pending := by
  unfold State.walkerFails
  split <;> simp

@[simp] theorem stopWalker_pending (s : State) : s.stopWalker.pending = s.pending := rfl

@[simp] theorem tableReadResponse_pending (s : State) (data : Option (BitVec 64)) :
    (s.tableReadResponse data).pending = s.pending := by
  unfold State.tableReadResponse
  repeat' split
  all_goals simp

@[simp] theorem exchangeResponse_pending (s : State) (r : ExchangeResult) :
    (s.exchangeResponse r).pending = s.pending := by
  unfold State.exchangeResponse
  repeat' split
  all_goals simp

@[simp] theorem startWalk_pending (s : State) (w : Walk) (rest : List Walk) : (s.startWalk w rest).pending = s.pending := by
  unfold State.startWalk
  dsimp only
  split <;> simp

/-! ## The rings -/

@[simp] theorem fetchStart_pending (s : State) (c : ChanNo) : (s.fetchStart c).pending = s.pending := by
  unfold State.fetchStart
  repeat' split
  all_goals simp

@[simp] theorem ringReadIssue_pending (s : State) (c : ChanNo) : (s.ringReadIssue c).pending = s.pending := by
  unfold State.ringReadIssue
  split <;> simp

@[simp] theorem runMark_pending (s : State) (c : ChanNo) (o : BitVec 512) : (s.runMark c o).pending = s.pending := by
  simp [State.runMark]

@[simp] theorem runWait_pending (s : State) (c : ChanNo) (o : BitVec 512) : (s.runWait c o).pending = s.pending := by
  unfold State.runWait
  dsimp only
  repeat' split
  all_goals simp

@[simp] theorem runData_pending (s : State) (c : ChanNo) (o : BitVec 512) : (s.runData c o).pending = s.pending := by
  unfold State.runData
  dsimp only
  repeat' split
  all_goals simp

@[simp] theorem runOrder_pending (s : State) (c : ChanNo) (k : OrderKind) (o : BitVec 512) :
    (s.runOrder c k o).pending = s.pending := by
  cases k <;> simp [State.runOrder]

@[simp] theorem receiveOrder_pending (s : State) (c : ChanNo) (o : BitVec 512) :
    (s.receiveOrder c o).pending = s.pending := by
  unfold State.receiveOrder
  dsimp only
  split <;> simp

@[simp] theorem ringFault_pending (s : State) (c : ChanNo) (cause : Cause) (addr : Pa) :
    (s.ringFault c cause addr).pending = s.pending := by
  simp [State.ringFault]

@[simp] theorem endRingTxn_pending (s : State) (c : ChanNo) (k : Nat) : (s.endRingTxn c k).pending = s.pending := rfl

@[simp] theorem recordIssue_pending (s : State) (c : ChanNo) : (s.recordIssue c).pending = s.pending := by
  unfold State.recordIssue
  split <;> simp

@[simp] theorem recordWritten_pending (s : State) (c : ChanNo) : (s.recordWritten c).pending = s.pending := by
  simp [State.recordWritten]

@[simp] theorem ringTxnFails_pending (s : State) (c : ChanNo) (k : Nat) (t : RingTxn) (timeout : Bool) :
    (s.ringTxnFails c k t timeout).pending = s.pending := by
  unfold State.ringTxnFails
  dsimp only
  split <;> split <;> simp

@[simp] theorem ringReadResponse_pending (s : State) (c : ChanNo) (k : Nat) (data : Option (BitVec 512)) :
    (s.ringReadResponse c k data).pending = s.pending := by
  unfold State.ringReadResponse
  repeat' split
  all_goals simp

@[simp] theorem completionWriteResponse_pending (s : State) (c : ChanNo) (k : Nat) (ok : Bool) :
    (s.completionWriteResponse c k ok).pending = s.pending := by
  unfold State.completionWriteResponse
  repeat' split
  all_goals simp

/-! ## Channel commands -/

@[simp] theorem latchHeld_pending (s : State) (c : ChanNo) : (s.latchHeld c).pending = s.pending := by
  unfold State.latchHeld
  split <;> simp

theorem pause_pending {s t : State} {c : ChanNo} (h : s.pause c = some t) : t.pending = s.pending := by
  unfold State.pause at h
  split at h <;> cases h <;> simp

theorem continueRun_pending {s t : State} {c : ChanNo} (h : s.continueRun c = some t) : t.pending = s.pending := by
  unfold State.continueRun at h
  repeat' split at h
  all_goals cases h
  all_goals simp

theorem resumeFault_pending {s t : State} {c : ChanNo} (h : s.resumeFault c = some t) : t.pending = s.pending := by
  unfold State.resumeFault at h
  dsimp only at h
  repeat' split at h
  all_goals cases h
  all_goals simp

theorem failOrder_pending {s t : State} {c : ChanNo} (h : s.failOrder c = some t) : t.pending = s.pending := by
  unfold State.failOrder at h
  split at h <;> cases h
  simp

theorem abortOrder_pending {s t : State} {c : ChanNo} (h : s.abortOrder c = some t) : t.pending = s.pending := by
  unfold State.abortOrder at h
  repeat' split at h
  all_goals cases h
  all_goals simp

theorem flush_pending {s t : State} {c : ChanNo} (h : s.flush c = some t) : t.pending = s.pending := by
  unfold State.flush at h
  split at h <;> cases h
  simp

theorem enable_pending {s t : State} {c : ChanNo} (h : s.enable c = some t) : t.pending = s.pending := by
  unfold State.enable at h
  split at h <;> cases h
  simp

theorem disable_pending {s t : State} {c : ChanNo} (h : s.disable c = some t) : t.pending = s.pending := by
  unfold State.disable at h
  split at h <;> cases h
  simp

theorem startReset_pending {s t : State} {c : ChanNo} (h : s.startReset c = some t) : t.pending = s.pending := by
  unfold State.startReset at h
  split at h <;> cases h
  simp

@[simp] theorem storeResult_pending (s : State) (c : ChanNo) (r : CmdResult) :
    (s.storeResult c r).pending = s.pending := rfl

/-- The checks of R28 around a command leave the queue alone where its effect does. -/
theorem runCommand_pending {s : State} {effect : Option State} (c : ChanNo)
    (h : ∀ t, effect = some t → t.pending = s.pending) : (s.runCommand c effect).pending = s.pending := by
  unfold State.runCommand
  split
  · rfl
  · cases effect with
    | none => rfl
    | some t => exact h t rfl

@[simp] theorem runEnable_pending (s : State) (c : ChanNo) : (s.runEnable c).pending = s.pending := by
  unfold State.runEnable
  split
  · rfl
  · exact runCommand_pending c fun _ => enable_pending

@[simp] theorem commandWrite_pending (s : State) (p : CmdPort) (c : ChanNo) (code : BitVec 8) :
    (s.commandWrite p c code).pending = s.pending := by
  unfold State.commandWrite
  split
  · rfl
  · split
    · exact runCommand_pending c fun _ => pause_pending
    · exact runCommand_pending c fun _ => continueRun_pending
    · exact runCommand_pending c fun _ => resumeFault_pending
    · exact runCommand_pending c fun _ => failOrder_pending
    · exact runCommand_pending c fun _ => abortOrder_pending
    · exact runCommand_pending c fun _ => flush_pending
    · exact runEnable_pending s c
    · exact runCommand_pending c fun _ => disable_pending
    · exact runCommand_pending c fun _ => startReset_pending

@[simp] theorem channelResetEnd_pending (s : State) (c : ChanNo) : (s.channelResetEnd c).pending = s.pending := by
  unfold State.channelResetEnd
  split <;> simp

/-! ## Resets, doze, WAITs and the timebase -/

@[simp] theorem resetLow_pending (s : State) : s.resetLow.pending = s.pending := rfl

@[simp] theorem resetHigh_pending (s : State) : s.resetHigh.pending = s.pending := by
  unfold State.resetHigh
  split <;> rfl

@[simp] theorem startSoftReset_pending (s : State) : s.startSoftReset.pending = s.pending := by
  simp only [State.startSoftReset]
  exact foldl_pending latchLane_pending _ s

@[simp] theorem softResetEnd_pending (s : State) : s.softResetEnd.pending = s.pending := by
  unfold State.softResetEnd
  split <;> rfl

@[simp] theorem enterDoze_pending (s : State) : s.enterDoze.pending = s.pending := by
  unfold State.enterDoze
  split <;> simp

@[simp] theorem actOnDozeReq_pending (s : State) (dozeReq : Bool) : (s.actOnDozeReq dozeReq).pending = s.pending := by
  unfold State.actOnDozeReq
  repeat' split
  all_goals simp

@[simp] theorem writeDoze_pending (s : State) (dozeReq autoWake : Bool) :
    (s.writeDoze dozeReq autoWake).pending = s.pending := by
  simp [State.writeDoze]

@[simp] theorem wakeAfterWait_pending (s : State) : s.wakeAfterWait.pending = s.pending := by
  unfold State.wakeAfterWait
  split <;> simp

@[simp] theorem resolveWait_pending (s : State) (c : ChanNo) (w : WaitEntry) (status : Status) :
    (s.resolveWait c w status).pending = s.pending := by
  unfold State.resolveWait
  dsimp only
  split <;> simp

@[simp] theorem takeWait_pending (s : State) (c : ChanNo) : (s.takeWait c).pending = s.pending := by
  unfold State.takeWait
  repeat' split
  all_goals simp

@[simp] theorem expireWait_pending (s : State) (c : ChanNo) : (s.expireWait c).pending = s.pending := by
  unfold State.expireWait
  repeat' split
  all_goals simp

@[simp] theorem tickBoundary_pending (s : State) : s.tickBoundary.pending = s.pending := by
  unfold State.tickBoundary
  split
  · rw [callFor_pending, modLanes_pending, modChannels_pending]
  · rfl

@[simp] theorem expireTxn_pending (s : State) (t : TxnRef) : (s.expireTxn t).pending = s.pending := by
  unfold State.expireTxn
  repeat' split
  all_goals simp

@[simp] theorem expireTimer_pending (s : State) (c : ChanNo) : (s.expireTimer c).pending = s.pending := by
  unfold State.expireTimer
  split <;> simp

/-! ## Register writes -/

@[simp] theorem modConfig_pending (s : State) (c : ChanNo) (f : ChannelConfig → ChannelConfig) :
    (s.modConfig c f).pending = s.pending := rfl

@[simp] theorem commit64_pending (s : State) (r : Reg64) (data : BitVec 32) : (s.commit64 r data).pending = s.pending := by
  cases r <;> rfl

@[simp] theorem writeLaneEnable_pending (s : State) (bits : BitVec 4) : (s.writeLaneEnable bits).pending = s.pending := by
  unfold State.writeLaneEnable
  dsimp only
  split
  all_goals exact foldl_pending (fun s l => modLane_pending s l _) _ _

@[simp] theorem writeInvalCtl_pending (s : State) (scope : BitVec 2) (sid : SpaceNo) (go : Bool) :
    (s.writeInvalCtl scope sid go).pending = s.pending := by
  cases go <;> simp [State.writeInvalCtl]

@[simp] theorem writeEngCtl_pending (s : State) (soft dozeReq autoWake : Bool) :
    (s.writeEngCtl soft dozeReq autoWake).pending = s.pending := by
  cases soft <;> simp [State.writeEngCtl]

@[simp] theorem writeDoorbell_pending (s : State) (c : ChanNo) (v : BitVec 16) :
    (s.writeDoorbell c v).pending = s.pending := by
  unfold State.writeDoorbell
  dsimp only
  repeat' split
  all_goals simp

@[simp] theorem writeCqHead_pending (s : State) (c : ChanNo) (v : BitVec 16) : (s.writeCqHead c v).pending = s.pending := by
  unfold State.writeCqHead
  split <;> simp

@[simp] theorem clearPending_pending (s : State) (set : EventSet) (data : BitVec 32) :
    (s.clearPending set data).pending = s.pending := by
  cases set <;> rfl

@[simp] theorem clearLog_pending (s : State) (data : BitVec 32) : (s.clearLog data).pending = s.pending := by
  unfold State.clearLog
  split <;> rfl

@[simp] theorem storeRegister_pending (s : State) (r : Reg) (data : BitVec 32) :
    (s.storeRegister r data).pending = s.pending := by
  cases r <;> simp [State.storeRegister]

/-! ## The engine's own steps -/

/-- No step the engine takes on its own account touches the queue. -/
@[simp] theorem take_pending (s : State) (d : Due) : (s.take d).pending = s.pending := by
  cases d with
  | takeover l | beat l | drainEnd l =>
    simp only [State.take, State.takeoverStep, State.beatStep, State.drainEndStep]
    split <;> simp
  | orderEnd l | handover l =>
    simp only [State.take, State.orderEndStep, State.handoverStep]
    split <;> simp
  | invalDone =>
    simp only [State.take, State.invalDoneStep]
    split <;> simp
  | grant | walk =>
    simp only [State.take, State.grantStep, State.walkStep]
    repeat' split
    all_goals simp
  | _ => simp [State.take]

end Sys2Proof.Machine
end

section
/-! SUPPORT. The commands as register writes, answers and steps of the engine's own, and the induction over what a
command does: what each of these keeps, every command keeps (R1). -/

namespace Sys2Proof.Machine

/-! ## Commands that are writes of one register (R7) -/

/-- A value of ENG_CTL that spells the three bits of a write (R178, R181). -/
theorem exists_engCtl_data (soft dozeReq autoWake : Bool) : ∃ data : BitVec 32,
    data.getLsbD 0 = soft ∧ data.getLsbD 1 = dozeReq ∧ data.getLsbD 2 = autoWake := by
  refine ⟨0#29 ++ bit autoWake ++ bit dozeReq ++ bit soft, ?_⟩
  revert soft dozeReq autoWake
  decide

/-- A value of INVAL_CTL with GO = 1 for each scope and space (R141). -/
theorem exists_invalCtl_data (scope : BitVec 2) (sid : SpaceNo) : ∃ data : BitVec 32,
    fld data 0 2 = scope ∧ sidField (fld data 4 4) = sid ∧ data.getLsbD 31 = true := by
  refine ⟨1#1 ++ 0#23 ++ BitVec.ofNat 4 sid.val ++ 0#2 ++ scope, ?_⟩
  revert scope sid
  decide

/-- A write of ENG_CTL as a register write; ENG_CTL is never refused (R10 to R12). -/
theorem writeEngCtl_eq_writeRegister (soft dozeReq autoWake : Bool) :
    ∃ data, ∀ s : State, s.writeEngCtl soft dozeReq autoWake = s.writeRegister .engCtl data := by
  obtain ⟨data, rfl, rfl, rfl⟩ := exists_engCtl_data soft dozeReq autoWake
  exact ⟨data, fun _ => rfl⟩

/-- INVAL_GO as a register write: refused exactly while an invalidation is in progress (R12, R141). -/
theorem invalGo_eq_writeRegister (scope : BitVec 2) (sid : SpaceNo) :
    ∃ data, ∀ s : State,
      (if s.inval.busy then s.refuse refuseInvalBusy (refusalOffset .invalCtl) else s.writeInvalCtl scope sid true) =
        s.writeRegister .invalCtl data := by
  obtain ⟨data, rfl, rfl, hgo⟩ := exists_invalCtl_data scope sid
  refine ⟨data, fun s => ?_⟩
  have href : s.refusal .invalCtl data = if s.inval.busy then some refuseInvalBusy else none := by
    simp [State.refusal, protectingChannel, protectingSpace, hgo]
  unfold State.writeRegister
  rw [href]
  cases s.inval.busy with
  | true => rfl
  | false =>
    change _ = s.writeInvalCtl _ _ (data.getLsbD 31)
    rw [hgo]
    rfl

/-- A code written to a command register as a register write; the command registers are never refused (R10 to R12). -/
theorem commandWrite_eq_writeRegister (s : State) (p : CmdPort) (c : ChanNo) (code : BitVec 8) :
    s.commandWrite p c code = s.writeRegister (.command p c) (code.setWidth 32) := by
  have hcode : fld (code.setWidth 32) 0 8 = code := by
    apply BitVec.eq_of_toNat_eq
    simpa [fld] using code.isLt
  change _ = s.commandWrite p c (fld (code.setWidth 32) 0 8)
  rw [hcode]

/-! ## What every command keeps -/

/-- A condition that every part of a command keeps: the steps the engine takes on its own account with the agenda
they leave, the reset pin, the tick, the answers from outside, and an access outside reset with its response. -/
structure KeptByEffects (P : State → Prop) : Prop where
  agenda : ∀ s, P s → P { s with agenda := [] }
  take : ∀ s d, P s → P (s.take d)
  resetLow : ∀ s, P s → P s.resetLow
  resetHigh : ∀ s, P s → P s.resetHigh
  respond : ∀ s p, P s → P (s.respond p)
  refuse : ∀ s reason off, s.operating = true → P s → P (s.refuse reason off)
  store : ∀ s r data, s.operating = true → s.refusal r data = none → P s → P (s.storeRegister r data)
  tick : ∀ s, P s → P s.tickBoundary
  pointerRead : ∀ s l k data, P s → P (s.pointerReadResponse l k data)
  laneRead : ∀ s l k data, P s → P (s.laneReadResponse l k data)
  laneWrite : ∀ s l k ok, P s → P (s.laneWriteResponse l k ok)
  ringRead : ∀ s c k data, P s → P (s.ringReadResponse c k data)
  recordWrite : ∀ s c k ok, P s → P (s.completionWriteResponse c k ok)
  tableRead : ∀ s data, P s → P (s.tableReadResponse data)
  exchange : ∀ s r, P s → P (s.exchangeResponse r)

namespace KeptByEffects

variable {P : State → Prop} (h : KeptByEffects P)
include h

theorem settled {s : State} (hs : P s) : P s.settled :=
  settled_induct h.agenda (fun s d _ => h.take s d) s hs

/-- An event of the engine's own, due or not. -/
theorem serialiseDue {s : State} (d : Due) (hs : P s) : P (s.serialiseDue d) := by
  by_cases hd : s.nextDue = some d
  · rw [serialiseDue_due hd]
    exact h.take s d hs
  · rw [serialiseDue_not_due hd]
    exact h.take _ d (h.settled hs)

theorem access {s : State} {f : State → State} (hf : s.operating = true → P (f s)) (hs : P s) : P (s.access f) := by
  cases ho : s.operating with
  | true =>
    rw [access_operating ho]
    exact h.respond _ _ (hf ho)
  | false =>
    rw [access_reset ho]
    exact h.respond _ _ hs

/-- An access whose effect is the write of a register: in reset, refused or stored. -/
theorem accessRegister {s : State} {f : State → State} (r : Reg) (data : BitVec 32)
    (e : ∀ u, f u = u.writeRegister r data) (hs : P s) : P (s.access f) := by
  refine h.access (fun ho => ?_) hs
  rw [e]
  unfold State.writeRegister
  split
  · exact h.refuse _ _ _ ho hs
  · exact h.store _ _ _ ho ‹_› hs

theorem sizeRefused {s : State} (off : BitVec 16) (hs : P s) : P (s.sizeRefused off) := by
  unfold State.sizeRefused
  split
  · exact h.respond _ _ (h.refuse _ _ _ ‹_› hs)
  · split <;> exact h.respond _ _ hs

theorem writeAt {s : State} (off : BitVec 16) (data : BitVec 32) (hs : P s) : P (s.writeAt off data) := by
  unfold State.writeAt
  split
  · exact h.sizeRefused off hs
  · split
    · exact h.accessRegister _ data (fun _ => rfl) hs
    · exact h.access (fun _ => hs) hs

/-- A command whose effect is an access that writes a register. -/
theorem serialiseRegister {s : State} {f : State → State} (r : Reg) (data : BitVec 32)
    (e : ∀ u, f u = u.writeRegister r data) (hs : P s) : P (s.serialise fun u => u.access f) :=
  h.accessRegister r data e (h.settled hs)

/-- A command that writes ENG_CTL (R178, R181). -/
theorem serialiseEngCtl {s : State} (soft dozeReq autoWake : Bool) (hs : P s) :
    P (s.serialise fun u => u.access fun v => v.writeEngCtl soft dozeReq autoWake) := by
  obtain ⟨data, e⟩ := writeEngCtl_eq_writeRegister soft dozeReq autoWake
  exact h.serialiseRegister _ _ e hs

/-- Every command keeps what its parts keep: one case per row of the table. -/
theorem exec {i : Instr} {s t : State} (hs : P s) (ht : exec i s = .next t) : P t := by
  have hu : P s.settled := h.settled hs
  cases i <;> cases ht
  case powerOnReset => exact h.resetLow _ hu
  case resetNRelease => exact h.resetHigh _ hu
  case illegalSizeAccess off bytes =>
    rw [serialise_eq]
    split
    · exact hu
    · exact h.sizeRefused off hu
  case registerWrite off data => exact h.writeAt off data hu
  case stageLowHalf r data => exact h.serialiseRegister (.low r) data (fun _ => rfl) hs
  case commitHighHalf r data => exact h.serialiseRegister (.high r) data (fun _ => rfl) hs
  case refusalLogClear data => exact h.serialiseRegister .refusalLog data (fun _ => rfl) hs
  case eventPendingClear set data =>
    cases set with
    | channel c => exact h.serialiseRegister (.evtPending c) data (fun _ => rfl) hs
    | global => exact h.serialiseRegister .glbEvtPending data (fun _ => rfl) hs
  case laneEnable data => exact h.serialiseRegister .laneEnable data (fun _ => rfl) hs
  case invalGo scope sid =>
    obtain ⟨data, e⟩ := invalGo_eq_writeRegister scope sid
    exact h.serialiseRegister .invalCtl data e hs
  case softReset dozeReq autoWake => exact h.serialiseEngCtl true dozeReq autoWake hs
  case dozeReqSet autoWake => exact h.serialiseEngCtl false true autoWake hs
  case dozeReqClear autoWake => exact h.serialiseEngCtl false false autoWake hs
  case doorbell c data => exact h.serialiseRegister (.sqTail c) data (fun _ => rfl) hs
  case cqHeadWrite c data => exact h.serialiseRegister (.cqHead c) data (fun _ => rfl) hs
  case markSet c data => exact h.serialiseRegister (.markSet c) data (fun _ => rfl) hs
  case cmdPause c p => exact h.serialiseRegister (.command .chCmd c) 1 (fun _ => rfl) hs
  case cmdContinue c p => exact h.serialiseRegister (.command .chCmd c) 2 (fun _ => rfl) hs
  case cmdResume c p => exact h.serialiseRegister (.command .chCmd c) 3 (fun _ => rfl) hs
  case cmdFail c p => exact h.serialiseRegister (.command .chCmd c) 4 (fun _ => rfl) hs
  case cmdAbort c p => exact h.serialiseRegister (.command .chCmd c) 5 (fun _ => rfl) hs
  case cmdFlush c p => exact h.serialiseRegister (.command .chCmd c) 6 (fun _ => rfl) hs
  case cmdEnable c => exact h.serialiseRegister (.command .chCtl c) 0x10 (fun _ => rfl) hs
  case cmdDisable c => exact h.serialiseRegister (.command .chCtl c) 0x11 (fun _ => rfl) hs
  case cmdReset c => exact h.serialiseRegister (.command .chCtl c) 0x12 (fun _ => rfl) hs
  case unknownCommand c p code => exact h.serialiseRegister _ _ (commandWrite_eq_writeRegister · p c code) hs
  case tickBoundary => exact h.tick _ hu
  case pointerReadResponse l k data => exact h.pointerRead _ l k data hu
  case laneReadResponse l k data => exact h.laneRead _ l k data hu
  case laneWriteResponse l k ok => exact h.laneWrite _ l k ok hu
  case ringReadResponse c k data => exact h.ringRead _ c k data hu
  case completionWriteResponse c k ok => exact h.recordWrite _ c k ok hu
  case tableReadResponse data => exact h.tableRead _ data hu
  case exchangeResponse r => exact h.exchange _ r hu
  all_goals exact h.serialiseDue _ hs

end KeptByEffects

end Sys2Proof.Machine
end

section
/-! PROOFS. The queue and the steps (notes/assumptions/1.md; R1). -/

open Sys2Proof Sys2Proof.Machine

namespace Sys2Proof.Proofs

/-- Settles O1: the equation of `step` on a queue that is not empty. -/
theorem stepRunsTheFrontCommand : Obligations.StepRunsTheFrontCommand := by
  intro s c rest hq
  simp only [step, hq]

/-- What the queue holds is kept by every part of a command: one lemma of the layer above for each. -/
theorem keptByEffects_pending (q : List Instr) : KeptByEffects fun s => s.pending = q where
  agenda _ hq := hq
  take s d hq := (take_pending s d).trans hq
  resetLow _ hq := hq
  resetHigh s hq := (resetHigh_pending s).trans hq
  respond _ _ hq := hq
  refuse s reason off _ hq := (refuse_pending s reason off).trans hq
  store s r data _ _ hq := (storeRegister_pending s r data).trans hq
  tick s hq := (tickBoundary_pending s).trans hq
  pointerRead s l k data hq := (pointerReadResponse_pending s l k data).trans hq
  laneRead s l k data hq := (laneReadResponse_pending s l k data).trans hq
  laneWrite s l k ok hq := (laneWriteResponse_pending s l k ok).trans hq
  ringRead s c k data hq := (ringReadResponse_pending s c k data).trans hq
  recordWrite s c k ok hq := (completionWriteResponse_pending s c k ok).trans hq
  tableRead s data hq := (tableReadResponse_pending s data).trans hq
  exchange s r hq := (exchangeResponse_pending s r).trans hq

/-- Settles O2: every part of a command leaves the queue alone, so the command does. -/
theorem commandsLeaveTheQueueAlone : Obligations.CommandsLeaveTheQueueAlone := by
  intro i s t ht
  exact (keptByEffects_pending s.pending).exec rfl ht

end Sys2Proof.Proofs
end

section
/-! SUPPORT. What the engine's own steps leave alone: the settings software has made, the refusal log, the timebase,
the reset pin and the queue. Of all a command does, only a register access, the reset pin, a tick boundary or the end of
a soft reset changes one of them. One lemma per operation those steps use, in the order of the definitions. -/

namespace Sys2Proof.Machine

/-- The state with its moving parts blanked: the agenda, the scheduler, the caches and walks, the invalidation, the
channels, the lanes, the global pending bits and the doze progress. Of the power state only RESETTING is kept apart. -/
def State.settings (s : State) : State :=
  { s with
    agenda := [], power := if s.power = .resetting then .resetting else .run, dozeReq := false, roundRobin := 0
    glbPending := 0, cache := [], walkQueue := [], walker := none, inval := {}
    channels := Vector.replicate 8 {}, lanes := Vector.replicate 4 {} }

/-! ## What equal settings have in common -/

theorem operating_of_settings {s t : State} (h : t.settings = s.settings) : t.operating = s.operating := by
  have hsettings (u : State) : u.settings.operating = u.operating := by
    cases hp : u.power <;> simp only [State.operating, State.settings, hp] <;> rfl
  rw [← hsettings t, h, hsettings s]

theorem refusalLog_of_settings {s t : State} (h : t.settings = s.settings) : t.refusalLog = s.refusalLog := by
  change t.settings.refusalLog = s.settings.refusalLog
  rw [h]

/-! ## Shared operations -/

@[simp] theorem setChan_settings (s : State) (c : ChanNo) (x : Channel) : (s.setChan c x).settings = s.settings := rfl

@[simp] theorem modChan_settings (s : State) (c : ChanNo) (f : Channel → Channel) :
    (s.modChan c f).settings = s.settings := rfl

@[simp] theorem setLane_settings (s : State) (l : LaneNo) (x : Lane) : (s.setLane l x).settings = s.settings := rfl

@[simp] theorem modLane_settings (s : State) (l : LaneNo) (f : Lane → Lane) :
    (s.modLane l f).settings = s.settings := rfl

@[simp] theorem callFor_settings (s : State) (fs : List FollowOn) : (s.callFor fs).settings = s.settings := rfl

theorem foldl_settings {α : Type} {f : State → α → State} (h : ∀ s a, (f s a).settings = s.settings)
    (as : List α) (s : State) : (as.foldl f s).settings = s.settings :=
  List.foldlRecOn (motive := fun t => t.settings = s.settings) as f rfl fun t ht a _ => (h t a).trans ht

theorem raiseGlobal_settings (s : State) (causes : BitVec 4) : (s.raiseGlobal causes).settings = s.settings := by
  rw [raiseGlobal_eq]
  rfl

@[simp] theorem reportDone_settings (s : State) (c : ChanNo) : (s.reportDone c).settings = s.settings := by
  obtain ⟨_, _, _, h⟩ := reportDone_frame s c
  simp [h]

@[simp] theorem enterFetching_settings (s : State) (c : ChanNo) : (s.enterFetching c).settings = s.settings := by
  unfold State.enterFetching
  dsimp only
  split <;> simp

@[simp] theorem enterCompleting_settings (s : State) (c : ChanNo) (status : Status) (result : BitVec 32) :
    (s.enterCompleting c status result).settings = s.settings := by
  obtain ⟨_, _, _, h⟩ | h | h := enterCompleting_cases s c status result <;> simp [h]

@[simp] theorem enterFaulted_settings (s : State) (c : ChanNo) (f : FaultInfo) :
    (s.enterFaulted c f).settings = s.settings := by
  obtain ⟨_, _, _, _, h⟩ := enterFaulted_frame s c f
  simp [h]

@[simp] theorem enterWedged_settings (s : State) (c : ChanNo) (cause : Cause) (addr : Pa) :
    (s.enterWedged c cause addr).settings = s.settings := by
  obtain ⟨_, _, _, _, h⟩ := enterWedged_frame s c cause addr
  simp [h]

/-- A wake changes the power state, and so leaves the settings alone outside a soft reset only. -/
theorem wakeUp_settings {s : State} (h : s.power ≠ .resetting) : s.wakeUp.settings = s.settings := by
  simp [wakeUp_eq, State.settings, State.callFor, h]

/-! ## Lanes -/

@[simp] theorem pump_settings (s : State) (l : LaneNo) : (s.pump l).settings = s.settings := by
  obtain ⟨_, _, _, _, _, h, -, -⟩ := pump_frame s l
  rw [h]
  rfl

@[simp] theorem laneTakeover_settings (s : State) (l : LaneNo) : (s.laneTakeover l).settings = s.settings := by
  unfold State.laneTakeover
  split <;> simp

@[simp] theorem laneBeat_settings (s : State) (l : LaneNo) : (s.laneBeat l).settings = s.settings := by
  simp [State.laneBeat]

@[simp] theorem releaseLane_settings (s : State) (l : LaneNo) : (s.releaseLane l).settings = s.settings := by
  rw [releaseLane_eq]
  rfl

@[simp] theorem returnProgress_settings (s : State) (l : LaneNo) (c : ChanNo) :
    (s.returnProgress l c).settings = s.settings := rfl

@[simp] theorem laneOrderEnd_settings (s : State) (l : LaneNo) (status : Status) :
    (s.laneOrderEnd l status).settings = s.settings := by
  unfold State.laneOrderEnd
  split <;> simp

@[simp] theorem laneHandover_settings (s : State) (l : LaneNo) (f : FaultInfo) :
    (s.laneHandover l f).settings = s.settings := by
  unfold State.laneHandover
  split <;> simp

@[simp] theorem laneDrainEnd_settings (s : State) (l : LaneNo) : (s.laneDrainEnd l).settings = s.settings := by
  unfold State.laneDrainEnd
  repeat' split
  all_goals simp

@[simp] theorem laneTxnFails_settings (s : State) (l : LaneNo) (k : Nat) (t : LaneTxn) (cause : Cause) :
    (s.laneTxnFails l k t cause).settings = s.settings := by
  simp [State.laneTxnFails]

@[simp] theorem grant_settings (s : State) (c : ChanNo) (l : LaneNo) : (s.grant c l).settings = s.settings := by
  have hlane (t : State) (x : Lane) : ({ t.setLane l x with roundRobin := c } : State).settings = t.settings := rfl
  unfold State.grant
  dsimp only
  rw [hlane]
  exact foldl_settings (fun s d => modChan_settings s d _) _ s

/-! ## The walker -/

@[simp] theorem answerLane_settings (s : State) (a : WalkRequest × Answer) :
    (s.answerLane a).settings = s.settings := by
  unfold State.answerLane
  repeat' split
  all_goals simp

@[simp] theorem deliver_settings (s : State) (as : Answers) : (s.deliver as).settings = s.settings := by
  unfold State.deliver
  dsimp only
  rw [foldl_settings, foldl_settings answerLane_settings]
  intro s a
  split <;> simp

@[simp] theorem endWalk_settings (s : State) (as : Answers) (entry : Option CacheEntry) :
    (s.endWalk as entry).settings = s.settings := by
  simp only [State.endWalk, deliver_settings]
  rfl

@[simp] theorem startAttempt_settings (s : State) (w : Walk) : (s.startAttempt w).settings = s.settings := rfl

@[simp] theorem endAttempt_settings (s : State) (w : Walk) (as : Answers) (entry : Option CacheEntry) :
    (s.endAttempt w as entry).settings = s.settings := by
  unfold State.endAttempt
  split <;> simp

@[simp] theorem walkerFails_settings (s : State) (w : Walker) (cause : Cause) :
    (s.walkerFails w cause).settings = s.settings := by
  unfold State.walkerFails
  split <;> simp

@[simp] theorem startWalk_settings (s : State) (w : Walk) (rest : List Walk) :
    (s.startWalk w rest).settings = s.settings := by
  unfold State.startWalk
  dsimp only
  split <;> simp only [deliver_settings] <;> rfl

/-! ## The rings -/

@[simp] theorem fetchStart_settings (s : State) (c : ChanNo) : (s.fetchStart c).settings = s.settings := by
  unfold State.fetchStart
  repeat' split
  all_goals simp

@[simp] theorem ringReadIssue_settings (s : State) (c : ChanNo) : (s.ringReadIssue c).settings = s.settings := by
  unfold State.ringReadIssue
  split <;> simp

@[simp] theorem endRingTxn_settings (s : State) (c : ChanNo) (k : Nat) : (s.endRingTxn c k).settings = s.settings := rfl

@[simp] theorem recordIssue_settings (s : State) (c : ChanNo) : (s.recordIssue c).settings = s.settings := by
  unfold State.recordIssue
  split <;> simp

@[simp] theorem ringTxnFails_settings (s : State) (c : ChanNo) (k : Nat) (t : RingTxn) (timeout : Bool) :
    (s.ringTxnFails c k t timeout).settings = s.settings := by
  unfold State.ringTxnFails
  dsimp only
  split <;> split <;> simp [State.ringFault]

@[simp] theorem channelResetEnd_settings (s : State) (c : ChanNo) : (s.channelResetEnd c).settings = s.settings := by
  unfold State.channelResetEnd
  split <;> simp

/-! ## Resets, doze, WAITs and timeouts -/

/-- A soft reset ends in RESETTING only (R179). -/
theorem softResetEnd_settings {s : State} (h : s.operating = true) : s.softResetEnd.settings = s.settings := by
  have hdue : s.softResetDue = false := by
    simp only [State.operating, Bool.and_eq_true, bne_iff_ne] at h
    simp [State.softResetDue, h]
  simp [State.softResetEnd, hdue]

@[simp] theorem enterDoze_settings (s : State) : s.enterDoze.settings = s.settings := by
  unfold State.enterDoze
  split
  · rename_i hdue
    simp only [State.dozeDue, Bool.and_eq_true, beq_iff_eq] at hdue
    obtain ⟨⟨-, hpower⟩, -⟩ := hdue
    rw [raiseGlobal_settings]
    simp [State.settings, hpower]
  · rfl

@[simp] theorem wakeAfterWait_settings (s : State) : s.wakeAfterWait.settings = s.settings := by
  unfold State.wakeAfterWait
  split
  · rename_i howed
    simp only [State.wakeOwed, Bool.and_eq_true, beq_iff_eq] at howed
    obtain ⟨⟨-, hpower⟩, -⟩ := howed
    exact wakeUp_settings (by simp [hpower])
  · rfl

@[simp] theorem resolveWait_settings (s : State) (c : ChanNo) (w : WaitEntry) (status : Status) :
    (s.resolveWait c w status).settings = s.settings := by
  unfold State.resolveWait
  dsimp only
  split <;> simp

@[simp] theorem takeWait_settings (s : State) (c : ChanNo) : (s.takeWait c).settings = s.settings := by
  unfold State.takeWait
  repeat' split
  all_goals simp

@[simp] theorem expireWait_settings (s : State) (c : ChanNo) : (s.expireWait c).settings = s.settings := by
  unfold State.expireWait
  split
  · split <;> simp
  · rfl

@[simp] theorem expireTxn_settings (s : State) (t : TxnRef) : (s.expireTxn t).settings = s.settings := by
  unfold State.expireTxn
  repeat' split
  all_goals simp

@[simp] theorem expireTimer_settings (s : State) (c : ChanNo) : (s.expireTimer c).settings = s.settings := by
  unfold State.expireTimer
  split <;> simp

/-! ## The engine's own steps -/

/-- Outside a soft reset no step the engine takes on its own account changes a setting. -/
theorem take_settings {s : State} (h : s.operating = true) (d : Due) : (s.take d).settings = s.settings := by
  cases d with
  | takeover l | beat l | drainEnd l =>
    simp only [State.take, State.takeoverStep, State.beatStep, State.drainEndStep]
    split <;> simp
  | orderEnd l | handover l =>
    simp only [State.take, State.orderEndStep, State.handoverStep]
    split <;> simp
  | invalDone =>
    simp only [State.take, State.invalDoneStep, State.endInvalidation]
    split
    · exact raiseGlobal_settings _ _
    · rfl
  | softResetEnd => exact softResetEnd_settings h
  | grant | walk =>
    simp only [State.take, State.grantStep, State.walkStep]
    repeat' split
    all_goals simp
  | _ => simp [State.take]

/-- The steps that are due before a command leave the settings alone outside a soft reset. -/
theorem settled_settings {s : State} (h : s.operating = true) : s.settled.settings = s.settings := by
  refine settled_induct (P := fun t => t.settings = s.settings) (fun _ ht => ht) (fun t d _ ht => ?_) s rfl
  exact (take_settings ((operating_of_settings ht).trans h) d).trans ht

end Sys2Proof.Machine
end

section
/-! SUPPORT. Refused accesses: the checks of R4 and R10 to R12 on each access that breaks one. -/

open Sys2Proof.Certificates

namespace Sys2Proof.Machine

/-! ## The offsets of the protected registers (section 1.1) -/

/-- The rows of a configuration block that have no half of a 64-bit register in them: each decodes to a register that
the block's channel protects, and logs the offset it was written at (R10, R14). -/
theorem decodeOffset_cfgOff (c : ChanNo) {o : Nat} (ho : o ∈ [0x08, 0x14, 0x18, 0x1C, 0x20]) :
    ∃ r, decodeOffset (cfgOff c o) = some r ∧ protectingChannel r = some c ∧ refusalOffset r = cfgOff c o ∧
      (cfgOff c o).toNat % 4 = 0 := by
  have hrow : decodeOffset (cfgOff c o) = decodeConfigOffset c o ∧ (cfgOff c o).toNat % 4 = 0 := by
    revert c o
    decide
  obtain ⟨hdecode, halign⟩ := hrow
  rw [hdecode]
  simp only [List.mem_cons, List.not_mem_nil, or_false] at ho
  rcases ho with rfl | rfl | rfl | rfl | rfl <;> exact ⟨_, rfl, rfl, rfl, halign⟩

theorem decodeOffset_spcOff (x : SpaceNo) :
    decodeOffset (spcOff x 0x0) = some (.spaceCfg x) ∧ (spcOff x 0x0).toNat % 4 = 0 := by
  revert x
  decide

/-- The high half of a ring base lies 4 bytes above its low half; the high half of a table root likewise. -/
theorem refusalOffset_high_base (c : ChanNo) :
    refusalOffset (.high (.sqBase c)) = cfgOff c 0x04 ∧ refusalOffset (.high (.cqBase c)) = cfgOff c 0x10 := by
  revert c
  decide

theorem refusalOffset_high_root (x : SpaceNo) : refusalOffset (.high (.spaceRoot x)) = spcOff x 0xC := by
  revert x
  decide

/-! ## The checks (R10, R11) -/

theorem refusal_channelEnabled {u : State} {r : Reg} {c : ChanNo} (hr : protectingChannel r = some c)
    (hc : (u.chan c).state ≠ .disabled) (data : BitVec 32) : u.refusal r data = some refuseChannelEnabled := by
  simp [State.refusal, hr, hc]

theorem refusal_spaceInUse {u : State} {r : Reg} {c : ChanNo} (hr : protectingChannel r = none)
    (hx : protectingSpace r = some (u.chan c).cfg.sid) (hc : (u.chan c).state ≠ .disabled) (data : BitVec 32) :
    u.refusal r data = some refuseSpaceInUse := by
  have hall : ∀ d : ChanNo, d ∈ allChannels := by decide
  have huse : u.spaceInUse (u.chan c).cfg.sid = true := by
    simp only [State.spaceInUse, List.any_eq_true, Bool.and_eq_true, bne_iff_ne, beq_iff_eq]
    exact ⟨c, hall c, hc, rfl⟩
  simp [State.refusal, hr, hx, huse]

/-- A refused write to a register is answered OK, unlike an access that breaks R4 (R13). -/
theorem access_writeRegister_refused {u : State} {r : Reg} {data : BitVec 32} {reason : BitVec 3}
    (ho : u.operating = true) (h : u.refusal r data = some reason) :
    (u.access fun v => v.writeRegister r data) = (u.refuse reason (refusalOffset r)).respond .ok := by
  rw [access_operating ho]
  simp only [State.writeRegister, h]

theorem writeAt_of_decode (u : State) {off : BitVec 16} {r : Reg} (halign : off.toNat % 4 = 0)
    (hr : decodeOffset off = some r) (data : BitVec 32) :
    u.writeAt off data = u.access fun v => v.writeRegister r data := by
  simp [State.writeAt, halign, hr]

/-! ## What a refused access does (R13) -/

/-- A refused access records its reason and offset, raises ACCESS_REFUSED and is answered; nothing else. -/
theorem exec_refused {s : State} {i : Instr} {reason : BitVec 3} {off : BitVec 16} (ho : s.settled.operating = true)
    (h : Refused s.settled i reason off) : ∃ p, exec i s = .next ((s.settled.refuse reason off).respond p) := by
  rcases h with ⟨rfl, w, n, hsize, rfl⟩ | ⟨rfl, c, d, hc, hi⟩ | ⟨rfl, c, d, hc, hi⟩ |
    ⟨rfl, hbusy, rfl, scope, sid, rfl⟩
  case inl =>
    refine ⟨.error, congrArg Host.Outcome.next ?_⟩
    have hbreaks : ¬(n = 4 ∧ off.toNat % 4 = 0) := by omega
    rw [serialise_eq, if_neg hbreaks, State.sizeRefused, if_pos ho]
    rfl
  case inr.inl =>
    obtain ⟨hsqHigh, hcqHigh⟩ := refusalOffset_high_base c
    refine ⟨.ok, ?_⟩
    rcases hi with ⟨rfl, rfl⟩ | ⟨rfl, rfl⟩ | ⟨rfl, rfl⟩ | ⟨rfl, rfl⟩ | ⟨o, hmem, rfl, rfl⟩ <;>
      refine congrArg Host.Outcome.next ?_
    · exact access_writeRegister_refused ho (refusal_channelEnabled (r := .low (.sqBase c)) rfl hc d)
    · rw [← hsqHigh]
      exact access_writeRegister_refused ho (refusal_channelEnabled rfl hc d)
    · exact access_writeRegister_refused ho (refusal_channelEnabled (r := .low (.cqBase c)) rfl hc d)
    · rw [← hcqHigh]
      exact access_writeRegister_refused ho (refusal_channelEnabled rfl hc d)
    · obtain ⟨r, hr, hprotects, hoff, halign⟩ := decodeOffset_cfgOff c hmem
      rw [serialise_eq, writeAt_of_decode _ halign hr, ← hoff]
      exact access_writeRegister_refused ho (refusal_channelEnabled hprotects hc d)
  case inr.inr.inl =>
    refine ⟨.ok, ?_⟩
    rcases hi with ⟨rfl, rfl⟩ | ⟨rfl, rfl⟩ | ⟨rfl, rfl⟩ <;> refine congrArg Host.Outcome.next ?_
    · obtain ⟨hr, halign⟩ := decodeOffset_spcOff (s.settled.chan c).cfg.sid
      rw [serialise_eq, writeAt_of_decode _ halign hr]
      exact access_writeRegister_refused ho (refusal_spaceInUse rfl rfl hc d)
    · exact access_writeRegister_refused ho
        (refusal_spaceInUse (r := .low (.spaceRoot (s.settled.chan c).cfg.sid)) rfl rfl hc d)
    · rw [← refusalOffset_high_root]
      exact access_writeRegister_refused ho (refusal_spaceInUse rfl rfl hc d)
  case inr.inr.inr =>
    refine ⟨.ok, congrArg Host.Outcome.next ?_⟩
    rw [serialise_eq, access_operating ho, if_pos hbusy]
    rfl

/-- The log a refused access leaves (R14). -/
theorem exec_refused_log {s : State} {i : Instr} {reason : BitVec 3} {off : BitVec 16}
    (ho : s.settled.operating = true) (h : Refused s.settled i reason off) :
    ∃ v, exec i s = .next v ∧ v.refusalLog = s.settled.refusalLog.record reason off := by
  obtain ⟨p, e⟩ := exec_refused ho h
  refine ⟨_, e, ?_⟩
  rw [respond_refusalLog, refuse_eq ho]

/-! ## The refusal log cleared (R15) -/

theorem exec_refusalLogClear {s : State} (ho : s.settled.operating = true) (data : BitVec 32) :
    exec (.refusalLogClear data) s = .next ((s.settled.clearLog data).respond .ok) :=
  congrArg Host.Outcome.next (access_operating ho _)

theorem clearLog_valid (s : State) {data : BitVec 32} (h : data.getLsbD 0 = true) :
    s.clearLog data = { s with refusalLog := {} } := if_pos h

theorem clearLog_not_valid (s : State) {data : BitVec 32} (h : data.getLsbD 0 = false) : s.clearLog data = s :=
  if_neg (by rw [h]; exact Bool.false_ne_true)

theorem record_empty (reason : BitVec 3) (off : BitVec 16) :
    RefusalLog.record {} reason off = { valid := true, reason := reason, offset := off, count := 1 } := rfl

end Sys2Proof.Machine
end

section
/-! PROOFS. The Register Interface and its access rules (chapter 1). -/

open Sys2Proof Sys2Proof.Machine

namespace Sys2Proof.Proofs

/-- Settles O12: the steps due between the clearing and the next refusal leave the cleared log alone, so that refusal
records into an empty log. -/
theorem writingValidClearsTheRefusalLog : Obligations.WritingValidClearsTheRefusalLog := by
  intro s u data hu ho
  subst hu
  have hclear := exec_refusalLogClear ho data
  refine ⟨fun hvalid => ?_, fun hvalid => ?_, fun t i reason off hvalid ht hrefused => ?_⟩
  · rw [hclear, clearLog_valid _ hvalid]
    rfl
  · rw [hclear, clearLog_not_valid _ hvalid]
    rfl
  · rw [hclear, clearLog_valid _ hvalid] at ht
    cases ht
    have hkept := settled_settings (s := State.respond { s.settled with refusalLog := {} } .ok) ho
    obtain ⟨v, hexec, hlog⟩ := exec_refused_log ((operating_of_settings hkept).trans ho) hrefused
    refine ⟨v, hexec, hlog.trans ?_⟩
    rw [refusalLog_of_settings hkept]
    exact record_empty reason off

end Sys2Proof.Proofs
end

section
/-! SUPPORT. Which step can be the step due, and the condition each due step meets: what a certificate with the premise
`s.nextDue = some d` knows of s (R1). -/

namespace Sys2Proof.Machine

/-- What calls for a step, by the rule that places it. -/
def State.callsFor (s : State) : Due → Prop
  | .ringRead c => s.ringReadDue c = true
  | .record c => s.recordDue c = true
  | .takeover l => (s.lane l).ending = some .takeover
  | .beat l => (s.lane l).ending = some .beat
  | .orderEnd l => ∃ status, (s.lane l).ending = some (.order status)
  | .handover l => ∃ f, (s.lane l).ending = some (.handover f)
  | .drainEnd l => (s.lane l).ending = some .drain
  | .channelResetEnd c => s.channelResetDue c = true
  | .invalDone => s.invalDue = true
  | .softResetEnd => s.softResetDue = true
  | .dozeEntered => s.dozeDue = true
  | .busTimeout t => s.operating = true ∧ s.timeoutDue t = true
  | .waitTimeout c => s.waitExpiryDue c = true
  | .timer c => s.timerDue c = true
  | .waitSatisfied c => s.waitDue c = true
  | .wake => s.wakeOwed = true
  | .fetch c => s.fetchDue c = true
  | .grant => s.grantDue = true
  | .walk => s.walkDue = true

/-! ## How the steps are looked up -/

theorem forall_mem_or {P : Due → Prop} {o o' : Option Due} (h : ∀ d ∈ o, P d) (h' : ∀ d ∈ o', P d) :
    ∀ d ∈ o.or o', P d := by
  intro d hd
  obtain hd | ⟨-, hd⟩ := Option.or_eq_some_iff.mp hd
  · exact h d hd
  · exact h' d hd

theorem forall_mem_ite {P : Due → Prop} {b : Bool} {e : Due} (h : b = true → P e) :
    ∀ d ∈ (if b then some e else none), P d := by
  cases b with
  | true => simpa using h
  | false => simp

theorem forall_mem_firstDue {P : Due → Prop} {α : Type} {f : α → Option Due} (h : ∀ a, ∀ d ∈ f a, P d)
    (as : List α) : ∀ d ∈ firstDue f as, P d := by
  induction as with
  | nil => simp [firstDue]
  | cons a rest ih =>
    unfold firstDue
    cases hfa : f a with
    | none => exact ih
    | some e =>
      rintro d ⟨⟩
      exact h a e hfa

/-! ## What each look-up can answer -/

theorem callsFor_of_issueDue (s : State) (c : ChanNo) : ∀ d ∈ s.issueDue c, s.callsFor d := by
  unfold State.issueDue
  split
  · rintro d ⟨⟩
    assumption
  · exact forall_mem_ite id

theorem callsFor_of_ownIssueDue (s : State) : ∀ d ∈ s.ownIssueDue, s.callsFor d := by
  unfold State.ownIssueDue
  split
  · exact callsFor_of_issueDue s _
  · simp

theorem callsFor_of_laneDue (s : State) (l : LaneNo) : ∀ d ∈ s.laneDue l, s.callsFor d := by
  unfold State.laneDue
  split <;> rintro d ⟨⟩
  case h_1 | h_2 | h_5 => assumption
  all_goals exact ⟨_, ‹_›⟩

theorem callsFor_of_endDue (s : State) : ∀ d ∈ s.endDue, s.callsFor d :=
  forall_mem_or (forall_mem_firstDue (callsFor_of_laneDue s) _) <|
  forall_mem_or (forall_mem_firstDue (fun _ => forall_mem_ite id) _) <|
  forall_mem_or (forall_mem_ite id) <|
  forall_mem_or (forall_mem_ite id) (forall_mem_ite id)

theorem callsFor_of_firstTimeout {s : State} (ho : s.operating = true) (ref : Nat → TxnRef) (n : Nat) :
    ∀ d ∈ s.firstTimeout ref n, s.callsFor d :=
  forall_mem_firstDue (fun _ => forall_mem_ite (And.intro ho)) _

theorem callsFor_of_expiryDue (s : State) : ∀ d ∈ s.expiryDue, s.callsFor d := by
  unfold State.expiryDue
  cases ho : s.operating with
  | false => simp
  | true =>
    exact forall_mem_or (forall_mem_firstDue (fun _ => callsFor_of_firstTimeout ho _ _) _) <|
      forall_mem_or (forall_mem_ite (And.intro ho)) <|
      forall_mem_or (forall_mem_firstDue (fun _ => callsFor_of_firstTimeout ho _ _) _) <|
      forall_mem_or (forall_mem_firstDue (fun _ => forall_mem_ite id) _) <|
      forall_mem_firstDue (fun _ => forall_mem_ite id) _

theorem callsFor_of_waitOn (s : State) (t : ChanNo) : ∀ d ∈ s.waitOn t, s.callsFor d :=
  forall_mem_firstDue (fun _ => forall_mem_ite fun h => (Bool.and_eq_true_iff.mp h).2) _

theorem callsFor_of_followOnDue (s : State) (f : FollowOn) : ∀ d ∈ s.followOnDue f, s.callsFor d := by
  cases f with
  | issue c => exact callsFor_of_issueDue s c
  | expiries => exact callsFor_of_expiryDue s
  | waits t => exact callsFor_of_waitOn s t
  | held c => exact forall_mem_or (callsFor_of_issueDue s c) (forall_mem_ite id)
  | wake | grants | walk => exact forall_mem_ite id

/-- The step that is due is one its rule calls for. -/
theorem callsFor_of_nextDue {s : State} {d : Due} (h : s.nextDue = some d) : s.callsFor d :=
  forall_mem_or (callsFor_of_ownIssueDue s)
    (forall_mem_or (callsFor_of_endDue s) (forall_mem_firstDue (callsFor_of_followOnDue s) _)) d h

end Sys2Proof.Machine
end

section
/-! SUPPORT. What a channel command does to the channel it names: the checks of R28 around FLUSH, CONTINUE, DISABLE and
ENABLE, and the ends of the three resets. -/

namespace Sys2Proof.Machine

/-! ## The checks of R28 -/

theorem runCommand_some {s : State} {c : ChanNo} (h : (s.chan c).state ≠ .clearing) (t : State) :
    s.runCommand c (some t) = t.storeResult c .done := if_neg h

theorem runCommand_none {s : State} {c : ChanNo} (h : (s.chan c).state ≠ .clearing) :
    s.runCommand c none = s.storeResult c .wrongState := if_neg h

/-- What a command's effect and the storing of its result keep, the command keeps. -/
theorem runCommand_induct {P : State → Prop} {s : State} {c : ChanNo} {effect : Option State}
    (hresult : ∀ t r, P t → P (t.storeResult c r)) (hs : P s) (heffect : ∀ t, effect = some t → P t) :
    P (s.runCommand c effect) := by
  unfold State.runCommand
  split
  · exact hresult s _ hs
  · cases effect with
    | none => exact hresult s _ hs
    | some t => exact hresult t _ (heffect t rfl)

@[simp] theorem storeResult_chan_same (s : State) (c : ChanNo) (r : CmdResult) :
    (s.storeResult c r).chan c = { s.chan c with cmdResult := r } := chan_modChan_same s c _

/-! ## FLUSH (R34, R54) -/

theorem flush_stopped {s : State} {c : ChanNo} (h : (s.chan c).state = .stopped) :
    s.flush c =
      some (s.modChan c fun ch => { ch with flushed := ch.sqTail - ch.sqHead, sqHead := ch.sqTail }) := if_pos h

theorem flush_not_stopped {s : State} {c : ChanNo} (h : (s.chan c).state ≠ .stopped) : s.flush c = none := if_neg h

theorem runCommand_flush_stopped {s : State} {c : ChanNo} (h : (s.chan c).state = .stopped) :
    s.runCommand c (s.flush c) =
      s.modChan c fun ch =>
        { ch with flushed := ch.sqTail - ch.sqHead, sqHead := ch.sqTail, cmdResult := .done } := by
  have hclearing : (s.chan c).state ≠ .clearing := by simp [h]
  rw [flush_stopped h, runCommand_some hclearing, State.storeResult, modChan_modChan]

theorem runCommand_flush_not_stopped {s : State} {c : ChanNo} (h : (s.chan c).state ≠ .stopped)
    (hclearing : (s.chan c).state ≠ .clearing) : s.runCommand c (s.flush c) = s.storeResult c .wrongState := by
  rw [flush_not_stopped h, runCommand_none hclearing]

/-! ## FLUSHED under the other commands (R54) -/

theorem continueRun_flushed {s t : State} {c : ChanNo} (h : s.continueRun c = some t) :
    (t.chan c).flushed = (s.chan c).flushed := by
  unfold State.continueRun at h
  repeat' split at h
  all_goals cases h
  all_goals simp

theorem disable_flushed {s t : State} {c : ChanNo} (h : s.disable c = some t) :
    (t.chan c).flushed = (s.chan c).flushed := by
  unfold State.disable at h
  split at h <;> cases h
  simp

theorem enable_flushed {s t : State} {c : ChanNo} (h : s.enable c = some t) :
    (t.chan c).flushed = (s.chan c).flushed := by
  unfold State.enable at h
  split at h <;> cases h
  simp [Channel.enabled]

/-- A command keeps FLUSHED where its effect does. -/
theorem runCommand_flushed {s : State} {c : ChanNo} {effect : Option State}
    (h : ∀ t, effect = some t → (t.chan c).flushed = (s.chan c).flushed) :
    ((s.runCommand c effect).chan c).flushed = (s.chan c).flushed :=
  runCommand_induct (P := fun t => (t.chan c).flushed = (s.chan c).flushed)
    (fun t r ht => by simpa using ht) rfl h

theorem runEnable_flushed (s : State) (c : ChanNo) : ((s.runEnable c).chan c).flushed = (s.chan c).flushed := by
  unfold State.runEnable
  split
  · simp
  · exact runCommand_flushed fun _ => enable_flushed

/-! ## The ends of the resets (R37, R177, R179) -/

@[simp] theorem engineReset_chan (s : State) (cause : ResetCause) (c : ChanNo) : (s.engineReset cause).chan c = {} := by
  simp [State.chan, State.engineReset, State.reset]

@[simp] theorem resetLow_chan (s : State) (c : ChanNo) : s.resetLow.chan c = {} := engineReset_chan s .powerOn c

theorem channelResetEnd_due {s : State} {c : ChanNo} (h : s.nextDue = some (.channelResetEnd c)) :
    s.channelResetEnd c = (s.modChan c Channel.afterReset).callFor [.waits c] := if_pos (callsFor_of_nextDue h)

theorem softResetEnd_due {s : State} (h : s.nextDue = some .softResetEnd) : s.softResetEnd = s.engineReset .soft :=
  if_pos (callsFor_of_nextDue h)

/-! ## The commands on an engine outside reset -/

theorem exec_cmdFlush {s : State} (ho : s.settled.operating = true) (c : ChanNo) (p : CmdPort) :
    exec (.cmdFlush c p) s = .next ((s.settled.runCommand c (s.settled.flush c)).respond .ok) :=
  congrArg Host.Outcome.next (access_operating ho fun u => u.runCommand c (u.flush c))

theorem exec_cmdContinue {s : State} (ho : s.settled.operating = true) (c : ChanNo) (p : CmdPort) :
    exec (.cmdContinue c p) s = .next ((s.settled.runCommand c (s.settled.continueRun c)).respond .ok) :=
  congrArg Host.Outcome.next (access_operating ho fun u => u.runCommand c (u.continueRun c))

theorem exec_cmdDisable {s : State} (ho : s.settled.operating = true) (c : ChanNo) :
    exec (.cmdDisable c) s = .next ((s.settled.runCommand c (s.settled.disable c)).respond .ok) :=
  congrArg Host.Outcome.next (access_operating ho fun u => u.runCommand c (u.disable c))

theorem exec_cmdEnable {s : State} (ho : s.settled.operating = true) (c : ChanNo) :
    exec (.cmdEnable c) s = .next ((s.settled.runEnable c).respond .ok) :=
  congrArg Host.Outcome.next (access_operating ho fun u => u.runEnable c)

/-! ## The resets as commands -/

theorem exec_powerOnReset (s : State) : exec .powerOnReset s = .next s.settled.resetLow := rfl

theorem exec_channelResetEnd_due {s : State} {c : ChanNo} (h : s.nextDue = some (.channelResetEnd c)) :
    exec (.channelResetEnd c) s = .next ((s.modChan c Channel.afterReset).callFor [.waits c]) :=
  congrArg Host.Outcome.next ((serialiseDue_due h).trans (channelResetEnd_due h))

theorem exec_softResetEnd_due {s : State} (h : s.nextDue = some .softResetEnd) :
    exec .softResetEnd s = .next (s.engineReset .soft) :=
  congrArg Host.Outcome.next ((serialiseDue_due h).trans (softResetEnd_due h))

end Sys2Proof.Machine
end

section
/-! PROOFS. The submission and completion rings (chapter 3). -/

open Sys2Proof Sys2Proof.Machine

namespace Sys2Proof.Proofs

/-- Settles O22: FLUSH by the checks of R28; CONTINUE, DISABLE and ENABLE by what their effects keep; a reset's end by
the condition that makes it the step due. -/
theorem flushDiscardsThePendingOrders : Obligations.FlushDiscardsThePendingOrders := by
  intro s u c p hu ho
  subst hu
  refine ⟨fun hstopped => ?_, fun hstopped hclearing => ?_, fun i hi => ?_, fun hdue => ?_, ?_, fun hdue => ?_⟩
  · rw [exec_cmdFlush ho, runCommand_flush_stopped hstopped]
    rfl
  · rw [exec_cmdFlush ho, runCommand_flush_not_stopped hstopped hclearing]
    rfl
  · simp only [List.mem_cons, List.not_mem_nil, or_false] at hi
    obtain rfl | rfl | rfl := hi
    · refine ⟨_, exec_cmdContinue ho c p, ?_⟩
      rw [chan_respond, runCommand_flushed fun _ => continueRun_flushed]
    · refine ⟨_, exec_cmdDisable ho c, ?_⟩
      rw [chan_respond, runCommand_flushed fun _ => disable_flushed]
    · refine ⟨_, exec_cmdEnable ho c, ?_⟩
      rw [chan_respond, runEnable_flushed]
  · refine ⟨_, exec_channelResetEnd_due hdue, ?_⟩
    rw [chan_callFor, chan_modChan_same]
    rfl
  · refine ⟨_, exec_powerOnReset s, ?_⟩
    rw [resetLow_chan]
    rfl
  · refine ⟨_, exec_softResetEnd_due hdue, ?_⟩
    rw [engineReset_chan]
    rfl

end Sys2Proof.Proofs
end

section
/-! SUPPORT. The shaper by its steps (R96 to R101): the bytes of an item as a list of digits in base 256, reading and
encoding as one another's inverse, division with a remainder, and the ranges of the formats. -/

open Sys2Proof.Certificates

namespace Sys2Proof.Machine

/-! ## Formats (R95) -/

theorem fmtSize_eq {fmt : BitVec 4} (h : fmt.toNat < 8) : fmtSize fmt = 2 ^ (fmt.toNat / 2) := by
  rw [fmtSize, Nat.mod_eq_of_lt (by omega)]

theorem fmtSize_pos (fmt : BitVec 4) : 0 < fmtSize fmt := Nat.two_pow_pos _

theorem fmtSize_le (fmt : BitVec 4) : fmtSize fmt ≤ 8 :=
  Nat.pow_le_pow_right (n := 2) (by decide) (show _ ≤ 3 by omega)

theorem pow_fmtSize (fmt : BitVec 4) : (256 : Nat) ^ fmtSize fmt = 2 ^ (8 * fmtSize fmt) :=
  (Nat.pow_mul 2 8 _).symm

theorem fmtSigned_iff (fmt : BitVec 4) : fmtSigned fmt = true ↔ fmt.toNat % 2 = 1 := by
  simp [fmtSigned, BitVec.getLsbD, Nat.testBit_zero]

/-- Half of 2^(8·size): the magnitude of a signed format's least integer. -/
theorem two_mul_fmtHalf (fmt : BitVec 4) : 2 * 2 ^ (8 * fmtSize fmt - 1) = 2 ^ (8 * fmtSize fmt) := by
  have hpos := fmtSize_pos fmt
  rw [← Nat.pow_succ', Nat.succ_eq_add_one, Nat.sub_one_add_one (by omega)]

theorem fmtMin_eq (fmt : BitVec 4) : fmtMin fmt =
    if fmtSigned fmt then -((2 : Int) ^ (8 * fmtSize fmt) / 2) else 0 := by
  have hhalf := two_mul_fmtHalf fmt
  zify at hhalf
  rw [fmtMin, ← hhalf, Int.mul_ediv_cancel_left _ (by decide)]
  simp

theorem fmtMax_eq (fmt : BitVec 4) : fmtMax fmt =
    if fmtSigned fmt then (2 : Int) ^ (8 * fmtSize fmt) / 2 - 1 else (2 : Int) ^ (8 * fmtSize fmt) - 1 := by
  have hhalf := two_mul_fmtHalf fmt
  zify at hhalf
  rw [fmtMax, ← hhalf, Int.mul_ediv_cancel_left _ (by decide), hhalf]
  simp

/-! ## The bytes of an item in address order (R2) -/

/-- The n least significant bytes of v, least significant first. -/
def leBytes (v n : Nat) : List Nat := (List.range n).map fun j => v / 256 ^ j % 256

/-- A byte order: as it stands, or reversed (SRC_SWAP and DST_SWAP). -/
def inOrder (swap : Bool) (bs : List Nat) : List Nat := if swap then bs.reverse else bs

@[simp] theorem length_inOrder (swap : Bool) (bs : List Nat) : (inOrder swap bs).length = bs.length := by
  cases swap <;> simp [inOrder]

@[simp] theorem mem_inOrder {swap : Bool} {bs : List Nat} {b : Nat} : b ∈ inOrder swap bs ↔ b ∈ bs := by
  cases swap <;> simp [inOrder]

@[simp] theorem inOrder_inOrder (swap : Bool) (bs : List Nat) : inOrder swap (inOrder swap bs) = bs := by
  cases swap <;> simp [inOrder]

@[simp] theorem length_leBytes (v n : Nat) : (leBytes v n).length = n := by simp [leBytes]

theorem lt_of_mem_leBytes {v n b : Nat} (h : b ∈ leBytes v n) : b < 256 := by
  obtain ⟨j, -, rfl⟩ := List.mem_map.mp h
  exact Nat.mod_lt _ (by decide)

theorem leBytes_succ (v n : Nat) : leBytes v (n + 1) = leBytes v n ++ [v / 256 ^ n % 256] := by
  simp [leBytes, List.range_succ]

/-- The model's little-endian value is the library's value of a list of digits in base 256. -/
theorem leValue_eq_ofDigits (bs : List Nat) : leValue bs = Nat.ofDigits 256 bs := by
  induction bs with
  | nil => rfl
  | cons b bs ih => simp [leValue, Nat.ofDigits_cons, ih]

theorem leValue_append_singleton (bs : List Nat) (b : Nat) :
    leValue (bs ++ [b]) = leValue bs + b * 256 ^ bs.length := by
  simp [leValue_eq_ofDigits, Nat.ofDigits_append, Nat.mul_comm]

theorem leValue_lt {bs : List Nat} (h : ∀ b ∈ bs, b < 256) : leValue bs < 256 ^ bs.length := by
  rw [leValue_eq_ofDigits]
  exact Nat.ofDigits_lt_base_pow_length (by decide) h

theorem leValue_map_range (f : Nat → Nat) (n : Nat) :
    leValue ((List.range n).map f) = ((List.range n).map fun j => f j * 256 ^ j).sum := by
  induction n with
  | zero => rfl
  | succ n ih => simp [List.range_succ, leValue_append_singleton, ih]

theorem leValue_leBytes (v n : Nat) : leValue (leBytes v n) = v % 256 ^ n := by
  induction n with
  | zero => simp [leBytes, leValue, Nat.mod_one]
  | succ n ih =>
    rw [leBytes_succ, leValue_append_singleton, ih, length_leBytes, Nat.mod_pow_succ, Nat.mul_comm (256 ^ n)]

theorem leBytes_leValue {bs : List Nat} (h : ∀ b ∈ bs, b < 256) : leBytes (leValue bs) bs.length = bs := by
  refine Nat.ofDigits_inj_of_len_eq (b := 256) (by decide) (length_leBytes _ _) (fun _ => lt_of_mem_leBytes) h ?_
  rw [← leValue_eq_ofDigits, leValue_leBytes, Nat.mod_eq_of_lt (leValue_lt h), leValue_eq_ofDigits]

theorem bytesOf_eq (x : BitVec 64) {n : Nat} (h : n ≤ 8) : bytesOf x n = leBytes x.toNat n := by
  have hplaces : [0, 1, 2, 3, 4, 5, 6, 7].take n = List.range n := by
    rw [show [0, 1, 2, 3, 4, 5, 6, 7] = List.range 8 from rfl, List.take_range, Nat.min_eq_left h]
  simp [bytesOf, leBytes, hplaces, byteAt, Nat.shiftRight_eq_div_pow, pow_mul]

theorem lt_of_mem_inOrder_leBytes {v n b : Nat} {swap : Bool} (h : b ∈ inOrder swap (leBytes v n)) : b < 256 :=
  lt_of_mem_leBytes (mem_inOrder.mp h)

theorem leValue_inOrder_leBytes_lt (v n : Nat) (swap : Bool) : leValue (inOrder swap (leBytes v n)) < 256 ^ n := by
  simpa using leValue_lt (bs := inOrder swap (leBytes v n)) fun _ => lt_of_mem_inOrder_leBytes

/-! ## An item's bytes as a value of 64 bits -/

theorem pow_256_le {n : Nat} (h : n ≤ 8) : 256 ^ n ≤ 2 ^ 64 := Nat.pow_le_pow_right (n := 256) (by decide) h

theorem elementBytes_eq (v n : Nat) (swap : Bool) :
    elementBytes v n swap = BitVec.ofNat 64 (leValue (inOrder swap (leBytes v n))) := by
  have hplaces : inOrder swap (leBytes v n) =
      (List.range n).map fun j => v / 256 ^ (if swap then n - 1 - j else j) % 256 := by
    cases swap with
    | false => rfl
    | true => exact List.ext_getElem (by simp [inOrder]) (by simp [inOrder, leBytes])
  rw [hplaces, leValue_map_range]
  rfl

/-- No bits are lost: an item of at most 8 bytes fits in 64 bits. -/
theorem toNat_elementBytes (v : Nat) {n : Nat} (h : n ≤ 8) (swap : Bool) :
    (elementBytes v n swap).toNat = leValue (inOrder swap (leBytes v n)) := by
  rw [elementBytes_eq, BitVec.toNat_ofNat]
  exact Nat.mod_eq_of_lt ((leValue_inOrder_leBytes_lt v n swap).trans_le (pow_256_le h))

theorem toNat_elementBytes_lt (v : Nat) {n : Nat} (h : n ≤ 8) (swap : Bool) :
    (elementBytes v n swap).toNat < 256 ^ n := by
  rw [toNat_elementBytes v h]
  exact leValue_inOrder_leBytes_lt v n swap

/-- Reversing twice is no reversal: what DST_SWAP writes, the same SRC_SWAP reads back. -/
theorem elementBytes_elementBytes (v : Nat) {n : Nat} (h : n ≤ 8) (swap : Bool) :
    elementBytes (elementBytes v n swap).toNat n swap = BitVec.ofNat 64 (v % 256 ^ n) := by
  have hbytes : leBytes (leValue (inOrder swap (leBytes v n))) n = inOrder swap (leBytes v n) := by
    simpa using leBytes_leValue (bs := inOrder swap (leBytes v n)) fun _ => lt_of_mem_inOrder_leBytes
  rw [elementBytes_eq, toNat_elementBytes v h, hbytes, inOrder_inOrder, leValue_leBytes]

/-! ## The decoding step (R97) -/

/-- The integer of a format that an unsigned value of its size stands for. -/
def fmtValue (fmt : BitVec 4) (u : Nat) : Int :=
  if fmtSigned fmt = true ∧ 2 ^ (8 * fmtSize fmt - 1) ≤ u then (u : Int) - 2 ^ (8 * fmtSize fmt) else u

theorem sourceValue_eq (fmt : BitVec 4) (swap : Bool) (raw : BitVec 64) :
    sourceValue fmt swap raw = fmtValue fmt (elementBytes raw.toNat (fmtSize fmt) swap).toNat := by
  rw [toNat_elementBytes _ (fmtSize_le fmt)]
  simp only [sourceValue, fmtValue, inOrder, bytesOf_eq raw (fmtSize_le fmt), Bool.and_eq_true, decide_eq_true_eq,
    Nat.cast_pow, Nat.cast_ofNat]
  congr

theorem fmtValue_mem_range {fmt : BitVec 4} {u : Nat} (h : u < 2 ^ (8 * fmtSize fmt)) :
    fmtMin fmt ≤ fmtValue fmt u ∧ fmtValue fmt u ≤ fmtMax fmt := by
  have hhalf := two_mul_fmtHalf fmt
  zify at h hhalf
  rw [fmtMin_eq, fmtMax_eq, fmtValue]
  zify
  cases fmtSigned fmt with
  | false => simp only [Bool.false_eq_true, if_false, false_and]; omega
  | true => simp only [if_true, true_and]; grind

theorem fmtValue_emod {fmt : BitVec 4} {u : Nat} (h : u < 2 ^ (8 * fmtSize fmt)) :
    fmtValue fmt u % 2 ^ (8 * fmtSize fmt) = u := by
  have hu : (u : Int) % 2 ^ (8 * fmtSize fmt) = u := Int.emod_eq_of_lt (by omega) (by exact_mod_cast h)
  rw [fmtValue]
  split
  · rw [Int.sub_emod_right, hu]
  · exact hu

/-! ## The scaling step (R98, R99) -/

theorem scaleValue_nonneg (round : BitVec 2) {scale : Int} (x : Int) (h : 0 ≤ scale) :
    scaleValue round scale x = (x * 2 ^ scale.toNat, false) := by
  simp [scaleValue, h]

theorem scaleValue_neg (round : BitVec 2) (x : Int) {k : Nat} (h : 1 ≤ k) :
    scaleValue round (-(k : Int)) x = (roundDiv round x k, decide (x % 2 ^ k ≠ 0)) := by
  simp [scaleValue, Nat.ne_of_gt h]

/-- What the division of R99 works on: quotient and remainder. -/
theorem ediv_emod_two_pow (x : Int) (k : Nat) :
    x = 2 ^ k * (x / 2 ^ k) + x % 2 ^ k ∧ 0 ≤ x % 2 ^ k ∧ x % 2 ^ k < 2 ^ k :=
  ⟨(Int.mul_ediv_add_emod x _).symm, Int.emod_nonneg x (by positivity), Int.emod_lt_of_pos x (by positivity)⟩

theorem roundDiv_half_even (x : Int) (k : Nat) : roundDiv 0 x k =
    if 2 * (x % 2 ^ k) < 2 ^ k ∨ 2 * (x % 2 ^ k) = 2 ^ k ∧ x / 2 ^ k % 2 = 0 then x / 2 ^ k else x / 2 ^ k + 1 := by
  simp [roundDiv]

theorem roundDiv_toward_zero (x : Int) (k : Nat) : roundDiv 1 x k =
    if x % 2 ^ k = 0 ∨ 0 ≤ x then x / 2 ^ k else x / 2 ^ k + 1 := by
  simp [roundDiv]

theorem roundDiv_down (x : Int) (k : Nat) : roundDiv 2 x k = x / 2 ^ k := by simp [roundDiv]

theorem roundDiv_up (x : Int) (k : Nat) : roundDiv 3 x k =
    if x % 2 ^ k = 0 then x / 2 ^ k else x / 2 ^ k + 1 := by
  simp [roundDiv]

/-- Every mode gives the quotient or, where a remainder is left, its successor. -/
theorem roundDiv_cases (round : BitVec 2) (x : Int) (k : Nat) :
    roundDiv round x k = x / 2 ^ k ∨ x % 2 ^ k ≠ 0 ∧ roundDiv round x k = x / 2 ^ k + 1 := by
  obtain ⟨-, -, hd⟩ := ediv_emod_two_pow x k
  obtain rfl | rfl | rfl | rfl : round = 0 ∨ round = 1 ∨ round = 2 ∨ round = 3 := by decide +revert
  · rw [roundDiv_half_even]; grind
  · rw [roundDiv_toward_zero]; grind
  · rw [roundDiv_down]; grind
  · rw [roundDiv_up]; grind

theorem roundDiv_mul_of_dvd (round : BitVec 2) {x : Int} {k : Nat} (h : (2 : Int) ^ k ∣ x) :
    roundDiv round x k * 2 ^ k = x := by
  obtain hy | ⟨hr, -⟩ := roundDiv_cases round x k
  · rw [hy, Int.ediv_mul_cancel h]
  · exact absurd (Int.emod_eq_zero_of_dvd h) hr

theorem roundDiv_half_even_nearest (x : Int) (k : Nat) :
    2 * |roundDiv 0 x k * 2 ^ k - x| ≤ 2 ^ k ∧
    (2 * |roundDiv 0 x k * 2 ^ k - x| = 2 ^ k → roundDiv 0 x k % 2 = 0) := by
  obtain ⟨hx, hr, hd⟩ := ediv_emod_two_pow x k
  rw [roundDiv_half_even]
  split
  case isTrue h =>
    have herr : |x / 2 ^ k * 2 ^ k - x| = x % 2 ^ k := by
      rw [show x / 2 ^ k * 2 ^ k - x = -(x % 2 ^ k) by linarith, abs_neg, abs_of_nonneg hr]
    rw [herr]
    omega
  case isFalse h =>
    have herr : |(x / 2 ^ k + 1) * 2 ^ k - x| = 2 ^ k - x % 2 ^ k := by
      rw [show (x / 2 ^ k + 1) * 2 ^ k - x = 2 ^ k - x % 2 ^ k by linarith, abs_of_nonneg (by linarith)]
    rw [herr]
    omega

theorem roundDiv_toward_zero_spec (x : Int) (k : Nat) :
    |roundDiv 1 x k * 2 ^ k| ≤ |x| ∧ |x| < |roundDiv 1 x k * 2 ^ k| + 2 ^ k ∧ 0 ≤ roundDiv 1 x k * x := by
  obtain ⟨hx, hr, hd⟩ := ediv_emod_two_pow x k
  have hpos : (0 : Int) < 2 ^ k := by positivity
  rw [roundDiv_toward_zero]
  obtain hx0 | hx0 := le_or_gt 0 x
  · have hq : 0 ≤ x / 2 ^ k := Int.ediv_nonneg hx0 hpos.le
    rw [if_pos (.inr hx0), abs_of_nonneg hx0, abs_of_nonneg (mul_nonneg hq hpos.le)]
    exact ⟨by linarith, by linarith, mul_nonneg hq hx0⟩
  · have hq : x / 2 ^ k < 0 := Int.ediv_neg_of_neg_of_pos hx0 hpos
    rw [abs_of_neg hx0]
    split
    case isTrue h =>
      have hrem : x % 2 ^ k = 0 := h.resolve_right hx0.not_ge
      rw [abs_of_neg (mul_neg_of_neg_of_pos hq hpos)]
      exact ⟨by linarith, by linarith, (mul_pos_of_neg_of_neg hq hx0).le⟩
    case isFalse h =>
      have hrem : x % 2 ^ k ≠ 0 := fun h0 => h (.inl h0)
      rw [abs_of_nonpos (mul_nonpos_of_nonpos_of_nonneg hq hpos.le)]
      refine ⟨by linarith, ?_, mul_nonneg_of_nonpos_of_nonpos hq hx0.le⟩
      have : 0 < x % 2 ^ k := lt_of_le_of_ne hr hrem.symm
      linarith

theorem roundDiv_down_spec (x : Int) (k : Nat) :
    roundDiv 2 x k * 2 ^ k ≤ x ∧ x < roundDiv 2 x k * 2 ^ k + 2 ^ k := by
  obtain ⟨hx, hr, hd⟩ := ediv_emod_two_pow x k
  rw [roundDiv_down]
  exact ⟨by linarith, by linarith⟩

theorem roundDiv_up_spec (x : Int) (k : Nat) :
    x ≤ roundDiv 3 x k * 2 ^ k ∧ roundDiv 3 x k * 2 ^ k < x + 2 ^ k := by
  obtain ⟨hx, hr, hd⟩ := ediv_emod_two_pow x k
  rw [roundDiv_up]
  split
  case isTrue hrem => exact ⟨by linarith, by linarith⟩
  case isFalse hrem =>
    have hrpos : 0 < x % 2 ^ k := lt_of_le_of_ne hr (Ne.symm hrem)
    exact ⟨by linarith, by linarith⟩

/-- Dividing by 2 or more and rounding never leaves the union of the source formats' ranges (R99). -/
theorem roundDiv_mem_range (round : BitVec 2) {x : Int} {k : Nat} (hk : 1 ≤ k) (hlo : -(2 ^ 63) ≤ x)
    (hhi : x < 2 ^ 64) : -(2 ^ 63) ≤ roundDiv round x k ∧ roundDiv round x k ≤ 2 ^ 64 - 1 := by
  have hd : (2 : Int) ≤ 2 ^ k := by exact_mod_cast Nat.pow_le_pow_right (n := 2) (by decide) hk
  have hpos : (0 : Int) < 2 ^ k := by positivity
  have hge : -(2 ^ 63) ≤ x / 2 ^ k := by
    rw [Int.le_ediv_iff_mul_le hpos]
    linarith
  have hlt : x / 2 ^ k < 2 ^ 63 := by
    rw [Int.ediv_lt_iff_lt_mul hpos]
    linarith
  obtain hy | ⟨-, hy⟩ := roundDiv_cases round x k <;> omega

/-! ## The range step (R100) -/

theorem rangeValue_inside {fmt : BitVec 4} (sat : Bool) {y : Int} (hlo : fmtMin fmt ≤ y) (hhi : y ≤ fmtMax fmt) :
    rangeValue fmt sat y = (y, {}) := if_pos ⟨hlo, hhi⟩

theorem fmtMin_le_fmtMax (fmt : BitVec 4) : fmtMin fmt ≤ fmtMax fmt := by
  have h := fmtValue_mem_range (fmt := fmt) (u := 0) (by positivity)
  exact h.1.trans h.2

theorem rangeValue_below {fmt : BitVec 4} {y : Int} (h : y < fmtMin fmt) :
    rangeValue fmt true y = (fmtMin fmt, { saturated := true }) := by
  simp [rangeValue, h, h.not_ge]

theorem rangeValue_above {fmt : BitVec 4} {y : Int} (h : fmtMax fmt < y) :
    rangeValue fmt true y = (fmtMax fmt, { saturated := true }) := by
  simp [rangeValue, h.not_ge, ((fmtMin_le_fmtMax fmt).trans_lt h).not_gt]

theorem rangeValue_wraps {fmt : BitVec 4} {y : Int} (h : y < fmtMin fmt ∨ fmtMax fmt < y) :
    rangeValue fmt false y = (wrapValue fmt y, { wrapped := true }) := by
  have hout : ¬ (fmtMin fmt ≤ y ∧ y ≤ fmtMax fmt) := by omega
  simp [rangeValue, hout]

/-- Wrapping reads y modulo 2^(8·size) as the decoding step reads an unsigned value. -/
theorem wrapValue_eq (fmt : BitVec 4) (y : Int) :
    wrapValue fmt y = fmtValue fmt (y % 2 ^ (8 * fmtSize fmt)).toNat := by
  obtain ⟨-, hr, hd⟩ := ediv_emod_two_pow y (8 * fmtSize fmt)
  have hhalf := two_mul_fmtHalf fmt
  zify at hhalf
  simp only [wrapValue, fmtValue, fmtMax_eq, Nat.cast_pow, Nat.cast_ofNat]
  zify
  rw [Int.toNat_of_nonneg hr]
  cases fmtSigned fmt with
  | false => simp only [Bool.false_eq_true, if_false, false_and]; exact if_pos (by omega)
  | true => simp only [if_true, true_and]; grind

theorem toNat_emod_fmtSize_lt (fmt : BitVec 4) (y : Int) :
    (y % 2 ^ (8 * fmtSize fmt)).toNat < 2 ^ (8 * fmtSize fmt) := by
  obtain ⟨-, hr, hd⟩ := ediv_emod_two_pow y (8 * fmtSize fmt)
  zify
  rwa [Int.toNat_of_nonneg hr]

theorem wrapValue_mem_range (fmt : BitVec 4) (y : Int) :
    fmtMin fmt ≤ wrapValue fmt y ∧ wrapValue fmt y ≤ fmtMax fmt := by
  rw [wrapValue_eq]
  exact fmtValue_mem_range (toNat_emod_fmtSize_lt fmt y)

theorem wrapValue_congr (fmt : BitVec 4) (y : Int) : (wrapValue fmt y - y) % 2 ^ (8 * fmtSize fmt) = 0 := by
  obtain ⟨-, hr, -⟩ := ediv_emod_two_pow y (8 * fmtSize fmt)
  rw [← Int.emod_eq_emod_iff_emod_sub_eq_zero, wrapValue_eq, fmtValue_emod (toNat_emod_fmtSize_lt fmt y),
    Int.toNat_of_nonneg hr]

/-! ## The encoding step and the whole shaper (R96, R101) -/

theorem swapBytes_eq (x : BitVec 64) {n : Nat} (h : n ≤ 8) : swapBytes x n = elementBytes x.toNat n true := by
  rw [elementBytes_eq, swapBytes, bytesOf_eq x h]
  rfl

theorem elementBytes_of_lt {v n : Nat} (h : v < 256 ^ n) : elementBytes v n false = BitVec.ofNat 64 v := by
  simp [elementBytes_eq, inOrder, leValue_leBytes, Nat.mod_eq_of_lt h]

theorem encodeValue_eq (fmt : BitVec 4) (swap : Bool) (z : Int) : encodeValue fmt swap z =
    elementBytes (z % 2 ^ (8 * fmtSize fmt)).toNat (fmtSize fmt) swap := by
  have hw := toNat_emod_fmtSize_lt fmt z
  rw [← pow_fmtSize] at hw
  have hfits := pow_256_le (fmtSize_le fmt)
  simp only [encodeValue, Nat.cast_pow, Nat.cast_ofNat]
  cases swap with
  | false => exact (elementBytes_of_lt hw).symm
  | true => rw [if_pos rfl, swapBytes_eq _ (fmtSize_le fmt), BitVec.toNat_ofNat, Nat.mod_eq_of_lt (hw.trans_le hfits)]

/-- A value of the format goes through the encoding step as the unsigned value it stood for (R97, R101). -/
theorem encodeValue_fmtValue {fmt : BitVec 4} (swap : Bool) {u : Nat} (h : u < 2 ^ (8 * fmtSize fmt)) :
    encodeValue fmt swap (fmtValue fmt u) = elementBytes u (fmtSize fmt) swap := by
  rw [encodeValue_eq, fmtValue_emod h, Int.toNat_natCast]

theorem shapeElement_eq (o : BitVec 512) (raw : BitVec 64) :
    let scaled := scaleValue (ordRound o) (ordScale o) (sourceValue (ordSrcFmt o) (ordSrcSwap o) raw)
    let fitted := rangeValue (ordDstFmt o) (ordSaturate o) scaled.1
    shapeElement o raw =
      { bytes := encodeValue (ordDstFmt o) (ordDstSwap o) fitted.1
        flags := { inexact := scaled.2, saturated := fitted.2.saturated, wrapped := fitted.2.wrapped } } := rfl

/-- With a SCALE of 0 and equal formats the bytes are only put in another order (R98). -/
theorem shapeElement_unscaled {o : BitVec 512} (raw : BitVec 64) (hscale : ordScale o = 0)
    (hfmt : ordSrcFmt o = ordDstFmt o) : shapeElement o raw =
      { bytes := elementBytes (elementBytes raw.toNat (fmtSize (ordDstFmt o)) (ordSrcSwap o)).toNat
          (fmtSize (ordDstFmt o)) (ordDstSwap o)
        flags := {} } := by
  have hu := toNat_elementBytes_lt raw.toNat (fmtSize_le (ordDstFmt o)) (ordSrcSwap o)
  rw [pow_fmtSize] at hu
  obtain ⟨hlo, hhi⟩ := fmtValue_mem_range hu
  simp only [shapeElement_eq, hscale, scaleValue_nonneg _ _ (le_refl (0 : Int)), hfmt, sourceValue_eq,
    Int.toNat_zero, pow_zero, mul_one, rangeValue_inside _ hlo hhi, encodeValue_fmtValue _ hu]

end Sys2Proof.Machine
end

section
/-! PROOFS. Element shaping (chapter 6). -/

open Sys2Proof Sys2Proof.Machine

namespace Sys2Proof.Proofs

/-- Settles O51: with equal formats a source value is encoded as the bytes it was read from; the steps are those of
the shaper, each by its own equation. -/
theorem nonNegativeScaleIsExact : Obligations.NonNegativeScaleIsExact := by
  refine ⟨fun round _ x h => scaleValue_nonneg round x h, fun o raw hscale hfmt _ => ?_,
    fun fmt swap raw hfmt => ?_, fun o raw hfmt => ?_⟩
  · have hn := fmtSize_le (ordDstFmt o)
    rw [shapeElement_unscaled raw hscale hfmt, hfmt]
    refine ⟨?_, fun hswap => ?_, rfl⟩
    · have hu := toNat_elementBytes_lt raw.toNat hn (ordSrcSwap o)
      rw [sourceValue_eq, sourceValue_eq, elementBytes_elementBytes _ hn, Nat.mod_eq_of_lt hu, BitVec.ofNat_toNat,
        BitVec.setWidth_eq]
    · rw [hswap, elementBytes_elementBytes _ hn, pow_fmtSize]
  · dsimp only
    rw [sourceValue_eq, fmtValue, fmtSize_eq hfmt]
    simp only [fmtSigned_iff]
  · dsimp only
    rw [shapeElement_eq, encodeValue_eq, fmtSize_eq hfmt]

/-- Settles O52: one lemma per mode of ROUND, and the bounds from what every mode gives. -/
theorem negativeScaleRoundsByMode : Obligations.NegativeScaleRoundsByMode := by
  intro round x k hk
  simp only [scaleValue_neg round x hk]
  refine ⟨?_, roundDiv_mul_of_dvd round, ?_, ?_, ?_, ?_, roundDiv_mem_range round hk⟩
  · rw [decide_eq_true_iff, Int.dvd_iff_emod_eq_zero]
  · rintro rfl; exact roundDiv_half_even_nearest x k
  · rintro rfl; exact roundDiv_toward_zero_spec x k
  · rintro rfl; exact roundDiv_down_spec x k
  · rintro rfl; exact roundDiv_up_spec x k

/-- Settles O53, by where y lies in relation to the destination range. -/
theorem rangeStepSaturatesOrWraps : Obligations.RangeStepSaturatesOrWraps := by
  intro fmt sat y _
  dsimp only
  rw [← fmtMin_eq, ← fmtMax_eq]
  refine ⟨fun hlo hhi => ?_, ?_, ?_, ?_⟩
  · rw [rangeValue_inside sat hlo hhi]
    exact ⟨rfl, rfl⟩
  · rintro rfl hlo
    rw [rangeValue_below hlo]
    exact ⟨rfl, rfl⟩
  · rintro rfl hhi
    rw [rangeValue_above hhi]
    exact ⟨rfl, rfl⟩
  · rintro rfl hout
    rw [rangeValue_wraps hout]
    obtain ⟨hlo, hhi⟩ := wrapValue_mem_range fmt y
    exact ⟨⟨hlo, hhi, wrapValue_congr fmt y⟩, rfl⟩

end Sys2Proof.Proofs
end

section
/-! SUPPORT. The condition of a WAIT (R162) as a bound on the distance from the threshold to the counter modulo 2^32. -/

namespace Sys2Proof.Machine

theorem waitMet_iff_toInt (mark v : BitVec 32) : waitMet mark v = true ↔ 0 ≤ (mark - v).toInt := decide_eq_true_iff

theorem waitMet_iff_toNat_lt (mark v : BitVec 32) : waitMet mark v = true ↔ (mark - v).toNat < 2 ^ 31 := by
  rw [waitMet_iff_toInt, BitVec.toInt_pos_iff]
  omega

/-- The boundary: a counter exactly 2^31 from the threshold does not satisfy the WAIT. -/
theorem waitMet_eq_false_of_sub_eq {mark v : BitVec 32} (h : mark - v = 0x80000000#32) : waitMet mark v = false := by
  rw [Bool.eq_false_iff, ne_eq, waitMet_iff_toNat_lt, h]
  decide

theorem waitMet_add_ofNat (v : BitVec 32) {d : Nat} (h : d < 2 ^ 31) : waitMet (v + BitVec.ofNat 32 d) v = true := by
  rw [waitMet_iff_toNat_lt, add_sub_cancel_left, BitVec.toNat_ofNat]
  omega

end Sys2Proof.Machine
end

section
/-! PROOFS. Cross-channel synchronisation (chapter 10). -/

open Sys2Proof Sys2Proof.Machine

namespace Sys2Proof.Proofs

/-- Settles O31: every part is about mark − v, which is 2^31 from either side of the boundary (its own negation). -/
theorem waitConditionIsSignedDistance : Obligations.WaitConditionIsSignedDistance := by
  intro mark v
  refine ⟨waitMet_iff_toInt mark v, ?_, fun d hd => ?_, ?_, ?_⟩
  · rw [waitMet_iff_toNat_lt]
    omega
  · exact waitMet_add_ofNat v (by omega)
  · exact waitMet_eq_false_of_sub_eq (add_sub_cancel_left v _)
  · exact waitMet_eq_false_of_sub_eq (by rw [sub_sub_cancel_left]; decide)

end Sys2Proof.Proofs
end

section
/-! SUPPORT. The conditions of Safety channel by channel and lane by lane, and what it means that a step keeps them. -/

namespace Sys2Proof.Machine

open Sys2Proof.Safety

@[simp] theorem mem_allChannels (c : ChanNo) : c ∈ allChannels := by
  revert c
  decide

@[simp] theorem mem_allLanes (l : LaneNo) : l ∈ allLanes := by
  revert l
  decide

theorem allChannels_all {p : ChanNo → Bool} : allChannels.all p = true ↔ ∀ c, p c = true := by
  simp

theorem allLanes_all {p : LaneNo → Bool} : allLanes.all p = true ↔ ∀ l, p l = true := by
  simp

/-! ## The conditions of one channel -/

/-- The pending flags are raised in states that allow them only (R19). -/
def Channel.FlagsOk (x : Channel) : Prop :=
  (x.pausePending = true → pauseAllowed x.state = true) ∧ (x.abortPending = true → abortAllowed x.state = true)

/-- The coalescing timer runs above a counter of 0 only, and the counter stays at or below 254 (R173, R174). -/
def Channel.CoalescingOk (x : Channel) : Prop :=
  (x.coalesceTimer = none ∨ x.coalesceCount ≠ 0) ∧ x.coalesceCount.toNat ≤ 254

/-- A wait entry exactly in SYNC_WAIT (R162). -/
def Channel.WaitOk (x : Channel) : Prop := x.wait.isSome = true ↔ x.state = .syncWait

/-- LAP in step with CQ_TAIL (R52), with a legal size of the completion ring (R29). -/
def Channel.LapOk (x : Channel) : Prop :=
  x.state ≠ .disabled → x.state ≠ .clearing →
    (2 ≤ x.cfg.cqSize.toNat ∧ x.cfg.cqSize.toNat ≤ 12) ∧
      x.lap = decide (x.cqTail.toNat / x.cfg.cqSlots % 2 = 0)

theorem pendingFlagsOk_iff (s : State) : pendingFlagsOk s = true ↔ ∀ c, (s.chan c).FlagsOk := by
  simp [pendingFlagsOk, Channel.FlagsOk, Classical.or_iff_not_imp_left]

theorem coalescingOk_iff (s : State) : coalescingOk s = true ↔ ∀ c, (s.chan c).CoalescingOk := by
  simp [coalescingOk, Channel.CoalescingOk]

theorem waitsOk_iff (s : State) : waitsOk s = true ↔ ∀ c, (s.chan c).WaitOk := by
  simp only [waitsOk, allChannels_all, Channel.WaitOk, beq_iff_eq]
  exact forall_congr' fun c => by rw [Bool.eq_iff_iff, beq_iff_eq]

theorem lapOk_iff (s : State) : lapOk s = true ↔ ∀ c, (s.chan c).LapOk := by
  simp [lapOk, Channel.LapOk, Classical.or_iff_not_imp_left]

theorem digestsOk_iff (s : State) :
    digestsOk s = true ↔ (∀ c, digestOk (s.chan c).progress = true) ∧ ∀ l, digestOk (s.lane l).progress = true := by
  simp [digestsOk]

theorem laneTransactionsOk_iff (s : State) :
    laneTransactionsOk s = true ↔ ∀ l, (s.lane l).txns.length ≤ 8 := by
  simp only [laneTransactionsOk, allLanes_all, decide_eq_true_iff]
  exact Iff.rfl

/-! ## Lanes and channels -/

/-- A busy lane serves a channel that is RUNNING, or CLEARING while it drains; any other serves none. -/
def State.Serves (s : State) (l : LaneNo) : Prop :=
  if (s.lane l).state.busy then
    ∃ c, (s.lane l).owner = some c ∧
      ((s.chan c).state = .running ∨ (s.chan c).state = .clearing ∧ (s.lane l).state = .draining)
  else (s.lane l).owner = none

theorem laneServes_iff (s : State) (l : LaneNo) : laneServes s l = true ↔ s.Serves l := by
  unfold laneServes State.Serves
  split <;> simp [Option.any_eq_true]

/-- A channel holds a lane where some busy lane names it as owner (R19). -/
theorem heldLane_isSome_iff (s : State) (c : ChanNo) :
    (s.heldLane c).isSome = true ↔ ∃ l, (s.lane l).state.busy = true ∧ (s.lane l).owner = some c := by
  simp [State.heldLane]

theorem heldLane_some {s : State} {c : ChanNo} {l : LaneNo} (h : s.heldLane c = some l) :
    (s.lane l).state.busy = true ∧ (s.lane l).owner = some c := by
  simpa using List.find?_some h

theorem heldLane_none {s : State} {c : ChanNo} (h : s.heldLane c = none) (l : LaneNo)
    (hbusy : (s.lane l).state.busy = true) : (s.lane l).owner ≠ some c := by
  intro howner
  have := (heldLane_isSome_iff s c).mpr ⟨l, hbusy, howner⟩
  simp [h] at this

/-- The agreement of lanes and channels, spelled out (R19, R22). -/
structure State.LanesOk (s : State) : Prop where
  serves : ∀ l, s.Serves l
  unique : ∀ l m, (s.lane l).state.busy = true → (s.lane l).owner = (s.lane m).owner → l = m
  low : s.resetN = false → s.power = .run
  holds : s.power ≠ .resetting → ∀ c, (s.chan c).state = .running →
    ∃ l, (s.lane l).state.busy = true ∧ (s.lane l).owner = some c

theorem lanesOk_iff (s : State) : lanesOk s = true ↔ s.LanesOk := by
  have hserves : allLanes.all (laneServes s) = true ↔ ∀ l, s.Serves l := by
    simp only [allLanes_all, laneServes_iff]
  have hunique : (allLanes.all fun l => allLanes.all fun m =>
      l == m || !(s.lane l).state.busy || (s.lane l).owner != (s.lane m).owner) = true ↔
      ∀ l m, (s.lane l).state.busy = true → (s.lane l).owner = (s.lane m).owner → l = m := by
    simp only [allLanes_all]
    refine forall_congr' fun l => forall_congr' fun m => ?_
    simp only [Bool.or_eq_true, beq_iff_eq, Bool.not_eq_true', bne_iff_ne, ne_eq]
    cases (s.lane l).state.busy <;> simp [or_iff_not_imp_right]
  have hlow : (s.resetN || s.power == .run) = true ↔ (s.resetN = false → s.power = .run) := by
    cases s.resetN <;> simp
  have hholds : (s.power == .resetting ||
      allChannels.all fun c => (s.chan c).state != .running || (s.heldLane c).isSome) = true ↔
      (s.power ≠ .resetting → ∀ c, (s.chan c).state = .running →
        ∃ l, (s.lane l).state.busy = true ∧ (s.lane l).owner = some c) := by
    simp only [Bool.or_eq_true, beq_iff_eq, allChannels_all, bne_iff_ne, heldLane_isSome_iff,
      Classical.or_iff_not_imp_left, not_not, ne_eq]
  unfold lanesOk
  rw [Bool.and_eq_true, Bool.and_eq_true, Bool.and_eq_true, hserves, hunique, hlow, hholds]
  exact ⟨fun ⟨⟨⟨a, b⟩, c⟩, d⟩ => ⟨a, b, c, d⟩, fun ⟨a, b, c, d⟩ => ⟨⟨⟨a, b⟩, c⟩, d⟩⟩

/-! ## The cache (R136, R138) -/

theorem overlaps_comm (e f : CacheEntry) : e.overlaps f = f.overlaps e := by
  unfold CacheEntry.overlaps
  rw [Bool.beq_comm (a := e.sid), Bool.or_comm e.block, Bool.beq_comm (a := e.page),
    Bool.beq_comm (a := pageRegion e.page)]

theorem noOverlap_iff (es : List CacheEntry) :
    noOverlap es = true ↔ es.Pairwise fun e f => e.overlaps f = false := by
  induction es with
  | nil => simp [noOverlap]
  | cons e rest ih => simp [noOverlap, ih]

theorem cacheOk_iff (s : State) :
    cacheOk s = true ↔ s.cache.length ≤ 32 ∧ s.cache.Pairwise fun e f => e.overlaps f = false := by
  simp only [cacheOk, noOverlap_iff, Bool.and_eq_true, decide_eq_true_iff]
  exact Iff.rfl

theorem cacheOk_of_perm {s t : State} (h : t.cache.Perm s.cache) (hs : cacheOk s = true) : cacheOk t = true := by
  rw [cacheOk_iff] at *
  refine ⟨h.length_eq ▸ hs.1, (h.pairwise_iff fun {e f} hef => ?_).mpr hs.2⟩
  rw [overlaps_comm]
  exact hef

theorem cacheOk_of_sublist {s t : State} (h : t.cache.Sublist s.cache) (hs : cacheOk s = true) : cacheOk t = true := by
  rw [cacheOk_iff] at *
  exact ⟨h.length_le.trans hs.1, hs.2.sublist h⟩

/-- An insertion drops what overlaps the new entry, and the least recent entry of a full cache (R138). -/
theorem cacheOk_insert {s t : State} {e : CacheEntry} (h : t.cache = insertCache s.cache e) (hs : cacheOk s = true) :
    cacheOk t = true := by
  rw [cacheOk_iff] at *
  rw [h]
  have hkept : ((s.cache.filter fun f => !f.overlaps e).take 31).Sublist (s.cache.filter fun f => !f.overlaps e) :=
    List.take_sublist _ _
  refine ⟨?_, List.pairwise_cons.mpr ⟨fun f hf => ?_, (hs.2.sublist List.filter_sublist).sublist hkept⟩⟩
  · simp [insertCache, Config.cacheSlots]
  · have hclear := (List.mem_filter.mp (hkept.subset hf)).2
    rw [overlaps_comm]
    simpa using hclear

/-! ## What a step keeps -/

/-- Every condition of Safety that holds before the step holds after it; that of the waits and of LAP where lanes and
channels agree before it. -/
structure State.Keeps (s t : State) : Prop where
  log : refusalLogOk s = true → refusalLogOk t = true
  doze : dozeOk s = true → dozeOk t = true
  flags : pendingFlagsOk s = true → pendingFlagsOk t = true
  coalescing : coalescingOk s = true → coalescingOk t = true
  transactions : laneTransactionsOk s = true → laneTransactionsOk t = true
  cache : cacheOk s = true → cacheOk t = true
  digests : digestsOk s = true → digestsOk t = true
  lanes : lanesOk s = true → lanesOk t = true
  waits : lanesOk s = true → waitsOk s = true → waitsOk t = true
  lap : lanesOk s = true → lapOk s = true → lapOk t = true

theorem State.Keeps.trans {s t u : State} (h : s.Keeps t) (h' : t.Keeps u) : s.Keeps u where
  log := h'.log ∘ h.log
  doze := h'.doze ∘ h.doze
  flags := h'.flags ∘ h.flags
  coalescing := h'.coalescing ∘ h.coalescing
  transactions := h'.transactions ∘ h.transactions
  cache := h'.cache ∘ h.cache
  digests := h'.digests ∘ h.digests
  lanes := h'.lanes ∘ h.lanes
  waits hl := h'.waits (h.lanes hl) ∘ h.waits hl
  lap hl := h'.lap (h.lanes hl) ∘ h.lap hl

/-- What a step that moves no channel into or out of RUNNING keeps of one channel. -/
structure Channel.Keeps (x y : Channel) : Prop where
  flags : x.FlagsOk → y.FlagsOk
  coalescing : x.CoalescingOk → y.CoalescingOk
  wait : x.WaitOk → y.WaitOk
  lap : x.LapOk → y.LapOk
  running : y.state = .running ↔ x.state = .running
  clearing : x.state = .clearing → y.state = .clearing

theorem Channel.Keeps.trans {x y z : Channel} (h : x.Keeps y) (h' : y.Keeps z) : x.Keeps z where
  flags := h'.flags ∘ h.flags
  coalescing := h'.coalescing ∘ h.coalescing
  wait := h'.wait ∘ h.wait
  lap := h'.lap ∘ h.lap
  running := h'.running.trans h.running
  clearing := h'.clearing ∘ h.clearing

/-- The fields of a channel that the conditions of one channel speak of. -/
def Channel.vitals (x : Channel) :
    (ChState × Bool × Bool) × (Option CoalesceTimer × BitVec 8) × Option WaitEntry × (BitVec 4 × Bool × BitVec 16) :=
  ((x.state, x.pausePending, x.abortPending), (x.coalesceTimer, x.coalesceCount), x.wait,
    (x.cfg.cqSize, x.lap, x.cqTail))

theorem Channel.keeps_of_vitals {x y : Channel} (h : y.vitals = x.vitals) : x.Keeps y := by
  simp only [Channel.vitals, Prod.mk.injEq] at h
  obtain ⟨⟨hstate, hpause, habort⟩, ⟨htimer, hcount⟩, hwait, hsize, hlap, htail⟩ := h
  constructor
  · simp [Channel.FlagsOk, hstate, hpause, habort]
  · simp [Channel.CoalescingOk, htimer, hcount]
  · simp [Channel.WaitOk, hstate, hwait]
  · simp only [Channel.LapOk, ChannelConfig.cqSlots, hstate, hsize, hlap, htail]
    exact id
  · rw [hstate]
  · rw [hstate]
    exact id

theorem Channel.keeps_refl (x : Channel) : x.Keeps x := Channel.keeps_of_vitals rfl

/-- What a step that releases no lane and grants none keeps of one lane. -/
structure Lane.Keeps (x y : Lane) : Prop where
  transactions : x.txns.length ≤ 8 → y.txns.length ≤ 8
  busy : y.state.busy = x.state.busy
  owner : y.owner = x.owner
  draining : x.state = .draining → y.state = .draining

theorem Lane.keeps_refl (x : Lane) : x.Keeps x := ⟨id, rfl, rfl, id⟩

theorem Lane.Keeps.trans {x y z : Lane} (h : x.Keeps y) (h' : y.Keeps z) : x.Keeps z where
  transactions := h'.transactions ∘ h.transactions
  busy := h'.busy.trans h.busy
  owner := h'.owner.trans h.owner
  draining := h'.draining ∘ h.draining

/-- A step that acts on channels and lanes one by one: none of them enters or leaves RUNNING, no lane is granted or
released, and the power state, the reset pin, DOZE_REQ and the refusal log stay. -/
structure State.Local (s t : State) : Prop where
  chan : ∀ c, (s.chan c).Keeps (t.chan c)
  lane : ∀ l, (s.lane l).Keeps (t.lane l)
  cache : cacheOk s = true → cacheOk t = true
  digests : digestsOk s = true → digestsOk t = true
  control : (t.refusalLog, t.power, t.dozeReq, t.resetN) = (s.refusalLog, s.power, s.dozeReq, s.resetN)

namespace State.Local

variable {s t u : State}

theorem trans (h : s.Local t) (h' : t.Local u) : s.Local u where
  chan c := (h.chan c).trans (h'.chan c)
  lane l := (h.lane l).trans (h'.lane l)
  cache := h'.cache ∘ h.cache
  digests := h'.digests ∘ h.digests
  control := h'.control.trans h.control

/-- A step that leaves channels, lanes, the cache's entries and the control fields as they are. -/
theorem of_eq (hchan : t.channels = s.channels) (hlane : t.lanes = s.lanes) (hcache : t.cache.Perm s.cache)
    (hcontrol : (t.refusalLog, t.power, t.dozeReq, t.resetN) = (s.refusalLog, s.power, s.dozeReq, s.resetN)) :
    s.Local t where
  chan c := by
    have : t.chan c = s.chan c := by simp only [State.chan, hchan]
    rw [this]
    exact Channel.keeps_refl _
  lane l := by
    have : t.lane l = s.lane l := by simp only [State.lane, hlane]
    rw [this]
    exact Lane.keeps_refl _
  cache := cacheOk_of_perm hcache
  digests h := by
    rw [digestsOk_iff] at *
    simpa only [State.chan, State.lane, hchan, hlane] using h
  control := hcontrol

theorem refl (s : State) : s.Local s := of_eq rfl rfl (List.Perm.refl _) rfl

theorem callFor (s : State) (fs : List FollowOn) : s.Local (s.callFor fs) := of_eq rfl rfl (List.Perm.refl _) rfl

theorem raiseGlobal (s : State) (causes : BitVec 4) : s.Local (s.raiseGlobal causes) := by
  rw [raiseGlobal_eq]
  exact of_eq rfl rfl (List.Perm.refl _) rfl

/-- An update of one channel. -/
theorem modChan {c : ChanNo} {f : Channel → Channel} (h : (s.chan c).Keeps (f (s.chan c)))
    (hdigest : digestOk (s.chan c).progress = true → digestOk (f (s.chan c)).progress = true) :
    s.Local (s.modChan c f) where
  chan d := by
    by_cases hd : d = c
    · subst hd
      rwa [chan_modChan_same]
    · rw [chan_modChan_ne _ _ hd]
      exact Channel.keeps_refl _
  lane l := Lane.keeps_refl _
  cache := id
  digests hs := by
    rw [digestsOk_iff] at *
    refine ⟨fun d => ?_, hs.2⟩
    by_cases hd : d = c
    · subst hd
      rw [chan_modChan_same]
      exact hdigest (hs.1 d)
    · rw [chan_modChan_ne _ _ hd]
      exact hs.1 d
  control := rfl

/-- An update of one channel that leaves its vitals and its progress alone. -/
theorem modChan_vitals {c : ChanNo} {f : Channel → Channel} (h : (f (s.chan c)).vitals = (s.chan c).vitals)
    (hp : (f (s.chan c)).progress = (s.chan c).progress) : s.Local (s.modChan c f) :=
  modChan (Channel.keeps_of_vitals h) (by rw [hp]; exact id)

/-- An update of one lane. -/
theorem setLane {l : LaneNo} {x : Lane} (h : (s.lane l).Keeps x)
    (hdigest : digestsOk s = true → digestOk x.progress = true) : s.Local (s.setLane l x) where
  chan c := Channel.keeps_refl _
  lane m := by
    by_cases hm : m = l
    · subst hm
      rwa [lane_setLane_same]
    · rw [lane_setLane_ne _ _ hm]
      exact Lane.keeps_refl _
  cache := id
  digests hs := by
    have hx := hdigest hs
    rw [digestsOk_iff] at *
    refine ⟨hs.1, fun m => ?_⟩
    by_cases hm : m = l
    · subst hm
      rwa [lane_setLane_same]
    · rw [lane_setLane_ne _ _ hm]
      exact hs.2 m
  control := rfl

theorem modLane {l : LaneNo} {f : Lane → Lane} (h : (s.lane l).Keeps (f (s.lane l)))
    (hdigest : digestsOk s = true → digestOk (f (s.lane l)).progress = true) : s.Local (s.modLane l f) :=
  setLane h hdigest

theorem foldl {α : Type} {f : State → α → State} (h : ∀ (s : State) a, s.Local (f s a)) (as : List α) (s : State) :
    s.Local (as.foldl f s) :=
  List.foldlRecOn (motive := fun t => s.Local t) as f (refl s) fun t ht a _ => ht.trans (h t a)

/-- Lanes and channels go on agreeing. -/
theorem lanesOk (h : s.Local t) (hs : s.LanesOk) : t.LanesOk := by
  have hc := h.control
  simp only [Prod.mk.injEq] at hc
  obtain ⟨-, hpower, -, hreset⟩ := hc
  constructor
  · intro l
    have hl := hs.serves l
    unfold State.Serves at *
    rw [(h.lane l).busy, (h.lane l).owner]
    split
    · rw [if_pos ‹_›] at hl
      obtain ⟨c, ho, hrun | ⟨hclear, hdrain⟩⟩ := hl
      · exact ⟨c, ho, .inl ((h.chan c).running.mpr hrun)⟩
      · exact ⟨c, ho, .inr ⟨(h.chan c).clearing hclear, (h.lane l).draining hdrain⟩⟩
    · rwa [if_neg ‹_›] at hl
  · intro l m
    rw [(h.lane l).busy, (h.lane l).owner, (h.lane m).owner]
    exact hs.unique l m
  · rw [hpower, hreset]
    exact hs.low
  · intro hp c hrun
    obtain ⟨l, hbusy, howner⟩ := hs.holds (hpower ▸ hp) c ((h.chan c).running.mp hrun)
    exact ⟨l, (h.lane l).busy ▸ hbusy, (h.lane l).owner ▸ howner⟩

/-- A step of that kind keeps every condition. -/
theorem keeps (h : s.Local t) : s.Keeps t := by
  have hc := h.control
  simp only [Prod.mk.injEq] at hc
  obtain ⟨hlog, hpower, hdoze, hreset⟩ := hc
  constructor
  · simp [refusalLogOk, hlog]
  · simp [dozeOk, hpower, hdoze, hreset]
  · simp only [pendingFlagsOk_iff]
    exact fun hs c => (h.chan c).flags (hs c)
  · simp only [coalescingOk_iff]
    exact fun hs c => (h.chan c).coalescing (hs c)
  · simp only [laneTransactionsOk_iff]
    exact fun hs l => (h.lane l).transactions (hs l)
  · exact h.cache
  · exact h.digests
  · simp only [lanesOk_iff]
    exact h.lanesOk
  · simp only [waitsOk_iff]
    exact fun _ hs c => (h.chan c).wait (hs c)
  · simp only [lapOk_iff]
    exact fun _ hs c => (h.chan c).lap (hs c)

end State.Local

theorem State.keeps_refl (s : State) : s.Keeps s := (State.Local.refl s).keeps

end Sys2Proof.Machine
end

section
/-! SUPPORT. The steps that act on channels and lanes one by one, each with what it keeps: events, the ways a channel
changes state, the lanes' own steps, the walker, the rings and the Synchroniser. -/

namespace Sys2Proof.Machine

open Sys2Proof.Safety

/-! ## Events (R170 to R175) -/

theorem withEvents_keeps {x : Channel} {e : BitVec 7} {k : BitVec 8} {t : Option CoalesceTimer}
    (h : x.CoalescingOk → (x.withEvents e k t).CoalescingOk) : x.Keeps (x.withEvents e k t) where
  flags := id
  coalescing := h
  wait := id
  lap := id
  running := Iff.rfl
  clearing := id

theorem reportDone_coalescing (s : State) (c : ChanNo) : ((s.reportDone c).chan c).CoalescingOk := by
  simp [State.reportDone, Channel.CoalescingOk]

/-- A counted success that stays below the threshold leaves the counter at 254 at most: the threshold is 255 at most. -/
theorem countSuccess_coalescing (s : State) (c : ChanNo) : ((s.countSuccess c).chan c).CoalescingOk := by
  unfold State.countSuccess
  split
  · exact reportDone_coalescing s c
  · rename_i hbelow
    have hthreshold : (s.chan c).cfg.effectiveThreshold ≤ 255 := by
      unfold ChannelConfig.effectiveThreshold
      split <;> omega
    have hcount : ((s.chan c).coalesceCount + 1).toNat = (s.chan c).coalesceCount.toNat + 1 := by
      rw [BitVec.toNat_add]
      exact Nat.mod_eq_of_lt (by simp; omega)
    rw [chan_modChan_same]
    refine ⟨.inr fun hzero => ?_, ?_⟩
    · have := congrArg BitVec.toNat hzero
      simp only [Channel.countedBelow, hcount] at this
      simp at this
    · simp only [Channel.countedBelow, hcount]
      omega

theorem raise_coalescing {s : State} {c : ChanNo} {causes : BitVec 7} (h : (s.chan c).CoalescingOk) :
    ((s.raise c causes).chan c).CoalescingOk := by
  rw [raise_eq, chan_modChan_same]
  exact h

theorem tell_coalescing {s : State} {c : ChanNo} {n : Notice} (h : (s.chan c).CoalescingOk) :
    ((s.tell c n).chan c).CoalescingOk := by
  unfold State.tell
  have hcounted : ((if n.counted then s.countSuccess c else s).chan c).CoalescingOk := by
    split
    · exact countSuccess_coalescing s c
    · exact h
  generalize (if n.counted then s.countSuccess c else s) = u at hcounted ⊢
  dsimp only
  split
  · exact reportDone_coalescing _ c
  · exact raise_coalescing hcounted

namespace State.Local

/-- An update of the event fields of one channel. -/
theorem of_events {s t : State} {c : ChanNo} (h : ∃ e k x, t = s.modChan c fun ch => ch.withEvents e k x)
    (hc : (s.chan c).CoalescingOk → (t.chan c).CoalescingOk) : s.Local t := by
  obtain ⟨e, k, x, rfl⟩ := h
  rw [chan_modChan_same] at hc
  exact modChan (withEvents_keeps hc) id

theorem raise (s : State) (c : ChanNo) (causes : BitVec 7) : s.Local (s.raise c causes) :=
  of_events (raise_frame s c causes) raise_coalescing

theorem reportDone (s : State) (c : ChanNo) : s.Local (s.reportDone c) :=
  of_events (reportDone_frame s c) fun _ => reportDone_coalescing s c

theorem tell (s : State) (c : ChanNo) (n : Notice) : s.Local (s.tell c n) :=
  of_events (tell_frame s c n) tell_coalescing

end State.Local

/-! ## How a channel changes state -/

/-- The states between DISABLED and CLEARING in which a channel serves no lane. -/
def ChState.Apart (st : ChState) : Prop := st ≠ .running ∧ st ≠ .disabled ∧ st ≠ .clearing

/-- A change of state among those that serve no lane. -/
theorem keeps_of_apart {x y : Channel} (hx : x.state.Apart) (hy : y.state ≠ .running) (hflags : x.FlagsOk → y.FlagsOk)
    (hwait : x.WaitOk → y.WaitOk) (hevents : (y.coalesceTimer, y.coalesceCount) = (x.coalesceTimer, x.coalesceCount))
    (hring : (y.cfg.cqSize, y.lap, y.cqTail) = (x.cfg.cqSize, x.lap, x.cqTail)) : x.Keeps y := by
  simp only [Prod.mk.injEq] at hevents hring
  obtain ⟨htimer, hcount⟩ := hevents
  obtain ⟨hsize, hlap, htail⟩ := hring
  obtain ⟨hrunning, hdisabled, hclearing⟩ := hx
  refine ⟨hflags, ?_, hwait, ?_, by simp [hy, hrunning], fun h => absurd h hclearing⟩
  · simp [Channel.CoalescingOk, htimer, hcount]
  · simp only [Channel.LapOk, ChannelConfig.cqSlots, hsize, hlap, htail]
    exact fun h _ _ => h hdisabled hclearing

theorem stop_keeps {x : Channel} (hx : x.state.Apart) : x.Keeps x.stop := by
  refine keeps_of_apart hx ?_ ?_ ?_ rfl rfl
  · simp [Channel.stop]
  · simp [Channel.stop, Channel.FlagsOk]
  · simp [Channel.stop, Channel.WaitOk]

theorem toFetching_keeps {x : Channel} (hx : x.state.Apart) (hwait : x.state ≠ .syncWait)
    (hflags : x.FlagsOk → x.pausePending = false ∧ x.abortPending = false) : x.Keeps x.toFetching := by
  refine keeps_of_apart hx ?_ ?_ ?_ rfl rfl
  · simp [Channel.toFetching]
  · intro h
    obtain ⟨hpause, habort⟩ := hflags h
    simp [Channel.toFetching, Channel.FlagsOk, hpause, habort]
  · simp [Channel.toFetching, Channel.WaitOk, hwait]

theorem toCompleting_flags {x : Channel} (status : Status) (result : BitVec 32) :
    (x.toCompleting status result).FlagsOk := by
  simp [Channel.toCompleting, Channel.FlagsOk, pauseAllowed, abortAllowed]

theorem toCompleting_keeps {x : Channel} (hx : x.state.Apart) (status : Status) (result : BitVec 32) :
    x.Keeps (x.toCompleting status result) := by
  refine keeps_of_apart hx ?_ (fun _ => toCompleting_flags status result) ?_ rfl rfl
  · simp [Channel.toCompleting]
  · simp [Channel.toCompleting, Channel.WaitOk]

/-- R24 keeps a flag only where it chooses IDLE, which it does with both flags 0. -/
theorem finish_keeps {x : Channel} (hx : x.state = .completing) : x.Keeps x.finish := by
  have hnext : x.nextState = .stopped ∨ x.nextState = .idle ∧ x.pausePending = false ∧ x.abortPending = false := by
    unfold Channel.nextState
    split
    · simp
    · split <;> simp_all
  refine keeps_of_apart (by simp [ChState.Apart, hx]) ?_ ?_ ?_ rfl rfl
  · obtain h | ⟨h, -⟩ := hnext <;> simp [Channel.finish, h]
  · obtain h | ⟨h, hpause, habort⟩ := hnext
    · simp [Channel.finish, Channel.FlagsOk, h]
    · simp [Channel.finish, Channel.FlagsOk, h, hpause, habort]
  · obtain h | ⟨h, -⟩ := hnext <;> simp [Channel.finish, Channel.WaitOk, h, hx]

/-- The parity of CQ_TAIL div Nc changes exactly where CQ_TAIL reaches a multiple of Nc, the wrap at 2^16 among them
(R52). -/
theorem lap_parity {n : Nat} (hlow : 2 ≤ n) (hhigh : n ≤ 12) (v : BitVec 16) :
    (if (v + 1).toNat % 2 ^ n = 0 then !decide (v.toNat / 2 ^ n % 2 = 0) else decide (v.toNat / 2 ^ n % 2 = 0)) =
      decide ((v + 1).toNat / 2 ^ n % 2 = 0) := by
  have hv : (v + 1).toNat = if v.toNat = 65535 then 0 else v.toNat + 1 := by
    have := v.isLt
    rw [BitVec.toNat_add]
    split <;> simp <;> omega
  have hlt := v.isLt
  rw [hv]
  generalize v.toNat = k at *
  rw [Bool.eq_iff_iff]
  interval_cases n <;> split <;> split <;> simp <;> omega

theorem recordAccepted_keeps {x : Channel} (hx : x.state = .completing) : x.Keeps x.recordAccepted := by
  refine ⟨id, id, id, fun h => ?_, Iff.rfl, id⟩
  intro _ _
  obtain ⟨⟨hlow, hhigh⟩, hlap⟩ := h (by simp [hx]) (by simp [hx])
  refine ⟨⟨hlow, hhigh⟩, ?_⟩
  simp only [Channel.recordAccepted, hlap, ChannelConfig.cqSlots]
  exact lap_parity hlow hhigh _

namespace State.Local

theorem stopChannel {s : State} {c : ChanNo} (h : (s.chan c).state.Apart) : s.Local (s.stopChannel c) :=
  (modChan (stop_keeps h) id).trans (tell _ c _)

theorem enterFetching {s : State} {c : ChanNo} (h : (s.chan c).state.Apart) (hwait : (s.chan c).state ≠ .syncWait)
    (hflags : (s.chan c).FlagsOk → (s.chan c).pausePending = false ∧ (s.chan c).abortPending = false) :
    s.Local (s.enterFetching c) := by
  have hmod : s.Local (s.modChan c Channel.toFetching) :=
    modChan (toFetching_keeps h hwait hflags) fun _ => by simp [Channel.toFetching, digestOk, Config.digestModulus]
  unfold State.enterFetching
  dsimp only
  split
  · exact hmod.trans (callFor _ _)
  · exact hmod

theorem finishOrder {s : State} {c : ChanNo} (h : (s.chan c).state = .completing) : s.Local (s.finishOrder c) :=
  (modChan (finish_keeps h) id).trans (tell _ c _)

/-- What follows the entry to COMPLETING in its step. -/
theorem enterCompleting_after (s : State) (c : ChanNo) (status : Status) (result : BitVec 32) :
    (s.modChan c fun ch => ch.toCompleting status result).Local (s.enterCompleting c status result) := by
  unfold State.enterCompleting
  dsimp only
  split
  · exact finishOrder (by rw [chan_modChan_same]; rfl)
  · split
    · exact refl _
    · exact callFor _ _

theorem enterCompleting {s : State} {c : ChanNo} (h : (s.chan c).state.Apart) (status : Status) (result : BitVec 32) :
    s.Local (s.enterCompleting c status result) :=
  (modChan (toCompleting_keeps h status result) id).trans (enterCompleting_after s c status result)

theorem enterFaulted {s : State} {c : ChanNo} (h : (s.chan c).state.Apart) (hwait : (s.chan c).state ≠ .syncWait)
    (f : FaultInfo) : s.Local (s.enterFaulted c f) := by
  refine (modChan (keeps_of_apart h ?_ ?_ ?_ rfl rfl) id).trans (tell _ c _)
  · simp
  · simp [Channel.FlagsOk, pauseAllowed]
  · simp [Channel.WaitOk, hwait]

theorem enterWedged {s : State} {c : ChanNo} (h : (s.chan c).state.Apart) (hwait : (s.chan c).state ≠ .syncWait)
    (cause : Cause) (addr : Pa) : s.Local (s.enterWedged c cause addr) := by
  refine (modChan (keeps_of_apart h ?_ ?_ ?_ rfl rfl) id).trans (tell _ c _)
  · simp
  · simp [Channel.FlagsOk]
  · simp [Channel.WaitOk, hwait]

theorem setMark (s : State) (c : ChanNo) (v : BitVec 32) : s.Local (s.setMark c v) :=
  (modChan_vitals rfl rfl).trans (callFor _ _)

/-! ## The rings (chapter 3) -/

theorem fetchStart (s : State) (c : ChanNo) : s.Local (s.fetchStart c) := by
  unfold State.fetchStart
  split
  · exact refl s
  · rename_i hdue
    simp only [Bool.not_eq_true, State.fetchDue, Bool.not_eq_false', Bool.and_eq_true, Bool.or_eq_true, beq_iff_eq] at hdue
    have hstate : (s.chan c).state = .idle ∨ (s.chan c).state = .waitingSlot := by tauto
    have hflags (h : (s.chan c).FlagsOk) : (s.chan c).pausePending = false ∧ (s.chan c).abortPending = false := by
      obtain ⟨hpause, habort⟩ := h
      obtain e | e := hstate <;> rw [e] at hpause habort <;> exact ⟨by simpa [pauseAllowed] using hpause, by simpa [abortAllowed] using habort⟩
    have hapart : (s.chan c).state.Apart := by obtain e | e := hstate <;> simp [ChState.Apart, e]
    have hwait : (s.chan c).state ≠ .syncWait := by obtain e | e := hstate <;> simp [e]
    split
    · exact enterFetching hapart hwait hflags
    · refine modChan (keeps_of_apart hapart ?_ ?_ ?_ rfl rfl) id
      · simp
      · intro h
        simp [Channel.FlagsOk, hflags h]
      · simp [Channel.WaitOk, hwait]

theorem ringReadIssue (s : State) (c : ChanNo) : s.Local (s.ringReadIssue c) := by
  unfold State.ringReadIssue
  split
  · exact refl s
  · exact modChan_vitals rfl rfl

theorem recordIssue (s : State) (c : ChanNo) : s.Local (s.recordIssue c) := by
  unfold State.recordIssue
  split
  · exact refl s
  · exact modChan_vitals rfl rfl

theorem endRingTxn (s : State) (c : ChanNo) (k : Nat) : s.Local (s.endRingTxn c k) := modChan_vitals rfl rfl

end State.Local

theorem seedDigest_inRange (seed : BitVec 32) :
    (seedDigest seed).1 < Config.digestModulus ∧ (seedDigest seed).2 < Config.digestModulus :=
  ⟨Nat.mod_lt _ (by decide), Nat.mod_lt _ (by decide)⟩

theorem startProgress_inRange (o : BitVec 512) : digestOk (startProgress o) = true := by
  obtain ⟨ha, hb⟩ := seedDigest_inRange (ordSeed o)
  by_cases hk : orderKind o = some .digest
  · simp [startProgress, digestOk, hk, ha, hb]
  · simp [startProgress, digestOk, hk, Config.digestModulus]

namespace State.Local

theorem runMark {s : State} {c : ChanNo} (h : (s.chan c).state.Apart) (o : BitVec 512) : s.Local (s.runMark c o) := by
  refine (setMark s c _).trans (enterCompleting ?_ _ _)
  rw [State.setMark, chan_callFor, chan_modChan_same]
  exact h

theorem runWait {s : State} {c : ChanNo} (h : (s.chan c).state = .fetching) (o : BitVec 512) :
    s.Local (s.runWait c o) := by
  have hapart : (s.chan c).state.Apart := by simp [ChState.Apart, h]
  unfold State.runWait
  dsimp only
  split
  · exact enterCompleting hapart _ _
  · split
    · exact enterCompleting hapart _ _
    · refine modChan (keeps_of_apart hapart ?_ ?_ ?_ rfl rfl) id
      · simp
      · simp [Channel.FlagsOk, h, pauseAllowed, abortAllowed]
      · simp [Channel.WaitOk]

theorem runData {s : State} {c : ChanNo} (h : (s.chan c).state = .fetching) (o : BitVec 512) :
    s.Local (s.runData c o) := by
  have hapart : (s.chan c).state.Apart := by simp [ChState.Apart, h]
  unfold State.runData
  split
  · exact enterCompleting hapart _ _
  · have hmod : s.Local (s.modChan c fun ch => { ch with state := .queued }) := by
      refine modChan (keeps_of_apart hapart ?_ ?_ ?_ rfl rfl) id
      · simp
      · simp [Channel.FlagsOk, h, pauseAllowed, abortAllowed]
      · simp [Channel.WaitOk, h]
    dsimp only
    split
    · exact hmod.trans (callFor _ _)
    · exact hmod

theorem runOrder {s : State} {c : ChanNo} (h : (s.chan c).state = .fetching) (k : OrderKind) (o : BitVec 512) :
    s.Local (s.runOrder c k o) := by
  have hapart : (s.chan c).state.Apart := by simp [ChState.Apart, h]
  cases k with
  | move | fill | digest => exact runData h o
  | mark => exact runMark hapart o
  | wait => exact runWait h o
  | note => exact enterCompleting hapart _ _

theorem receiveOrder {s : State} {c : ChanNo} (h : (s.chan c).state = .fetching) (o : BitVec 512) :
    s.Local (s.receiveOrder c o) := by
  have hcopy : s.Local (s.modChan c fun ch => { ch with order := some o }) := modChan_vitals rfl rfl
  have hstate : ((s.modChan c fun ch => { ch with order := some o }).chan c).state = .fetching := by
    rw [chan_modChan_same]
    exact h
  unfold State.receiveOrder
  dsimp only
  split
  · refine hcopy.trans ((modChan (Channel.keeps_of_vitals rfl) fun _ => startProgress_inRange o).trans (runOrder ?_ _ o))
    rw [chan_modChan_same]
    exact hstate
  · exact hcopy.trans (enterCompleting (by simp [ChState.Apart, h]) _ _)

theorem ringTxnFails (s : State) (c : ChanNo) (k : Nat) (t : RingTxn) (timeout : Bool) :
    s.Local (s.ringTxnFails c k t timeout) := by
  have hend := endRingTxn s c k
  have hstate : ((s.endRingTxn c k).chan c).state = (s.chan c).state := by
    rw [State.endRingTxn, chan_modChan_same]
  unfold State.ringTxnFails
  dsimp only
  split <;> split
  · rename_i hcounts
    simp only [State.readCounts, Bool.and_eq_true, beq_iff_eq] at hcounts
    exact hend.trans (enterFaulted (by simp [ChState.Apart, hstate, hcounts]) (by simp [hstate, hcounts]) _)
  · exact hend
  · rename_i hcounts
    simp only [State.writeCounts, Bool.and_eq_true, beq_iff_eq] at hcounts
    exact hend.trans (enterWedged (by simp [ChState.Apart, hstate, hcounts]) (by simp [hstate, hcounts]) _ _)
  · exact hend

theorem ringReadResponse (s : State) (c : ChanNo) (k : Nat) (data : Option (BitVec 512)) :
    s.Local (s.ringReadResponse c k data) := by
  unfold State.ringReadResponse
  split
  · split
    · split
      · split
        · rename_i hcounts
          simp only [State.readCounts, Bool.and_eq_true, beq_iff_eq] at hcounts
          refine (endRingTxn s c k).trans (receiveOrder ?_ _)
          rw [State.endRingTxn, chan_modChan_same]
          exact hcounts.2
        · exact endRingTxn s c k
      · exact ringTxnFails s c k _ _
    · exact refl s
  · exact refl s

theorem recordWritten {s : State} {c : ChanNo} (h : (s.chan c).state = .completing) : s.Local (s.recordWritten c) :=
  (modChan (recordAccepted_keeps h) id).trans (finishOrder (by rw [chan_modChan_same]; exact h))

theorem completionWriteResponse (s : State) (c : ChanNo) (k : Nat) (ok : Bool) :
    s.Local (s.completionWriteResponse c k ok) := by
  unfold State.completionWriteResponse
  split
  · split
    · exact refl s
    · split
      · split
        · rename_i hcounts
          simp only [State.writeCounts, Bool.and_eq_true, beq_iff_eq] at hcounts
          refine (endRingTxn s c k).trans (recordWritten ?_)
          rw [State.endRingTxn, chan_modChan_same]
          exact hcounts.2
        · exact endRingTxn s c k
      · exact ringTxnFails s c k _ _
  · exact refl s

/-! ## The Synchroniser and the timebase (chapters 10, 11) -/

theorem resolveWait {s : State} {c : ChanNo} (h : (s.chan c).state.Apart) (w : WaitEntry) (status : Status) :
    s.Local (s.resolveWait c w status) := by
  unfold State.resolveWait
  dsimp only
  split
  · exact (callFor s [.wake]).trans (enterCompleting (s := s.callFor [.wake]) h _ _)
  · exact enterCompleting h _ _

theorem apart_of_activeWait {s : State} {c : ChanNo} {w : WaitEntry} (h : s.activeWait c = some w) :
    (s.chan c).state.Apart := by
  unfold State.activeWait at h
  split at h
  · rename_i hactive
    simp only [Bool.and_eq_true, beq_iff_eq] at hactive
    simp [ChState.Apart, hactive]
  · cases h

theorem takeWait (s : State) (c : ChanNo) : s.Local (s.takeWait c) := by
  unfold State.takeWait
  split
  · split
    · exact resolveWait (apart_of_activeWait ‹_›) _ _
    · exact refl s
  · exact refl s

theorem expireWait (s : State) (c : ChanNo) : s.Local (s.expireWait c) := by
  unfold State.expireWait
  split
  · split
    · exact resolveWait (apart_of_activeWait ‹_›) _ _
    · exact refl s
  · exact refl s

theorem expireTimer (s : State) (c : ChanNo) : s.Local (s.expireTimer c) := by
  unfold State.expireTimer
  split
  · exact reportDone s c
  · exact refl s

end State.Local

end Sys2Proof.Machine
end

section
/-! SUPPORT. What the lanes' own steps, the answers to their transactions and the walker keep of lanes and cache. -/

namespace Sys2Proof.Machine

open Sys2Proof.Safety

/-! ## Transactions (R117): which steps of a lane leave them alone -/

@[simp] theorem fail_txns (x : Lane) (f : Failure) : (x.fail f).txns = x.txns := by
  unfold Lane.fail
  repeat' split
  all_goals rfl

@[simp] theorem expect_txns (x : Lane) (k : AccessKind) (n : Nat) : (x.expect k n).txns = x.txns := by
  unfold Lane.expect
  split <;> rfl

@[simp] theorem formAccess_txns (x : Lane) (k : AccessKind) (a : Int) (size : Nat) :
    (x.formAccess k a size).txns = x.txns := by
  unfold Lane.formAccess
  split
  · simp
  · rw [fail_txns]

@[simp] theorem beginPosition_txns (x : Lane) : x.beginPosition.txns = x.txns := by
  unfold Lane.beginPosition
  dsimp only
  split <;> rw [formAccess_txns]

@[simp] theorem followPointer_txns (x : Lane) : x.followPointer.txns = x.txns := formAccess_txns x _ _ _

@[simp] theorem afterIssue_txns (x : Lane) (k : AccessKind) : (x.afterIssue k).txns = x.txns := by
  unfold Lane.afterIssue
  split <;> rfl

/-- A lane issues a transaction only while fewer than 8 are outstanding (R117 item 3). -/
theorem laneStep_txns {s t : State} {l : LaneNo} (h : s.laneStep l = some t) (hs : (s.lane l).txns.length ≤ 8) :
    (t.lane l).txns.length ≤ 8 := by
  unfold State.laneStep at h
  dsimp only at h
  split at h
  · cases h
  · split at h
    · cases h
      simpa using hs
    · cases h
      simpa using hs
    · split at h
      · cases h
      · split at h <;> cases h <;> rw [lane_setLane_same] <;> exact hs
    · cases h
      simpa using hs
    · split at h
      · rename_i hmay
        cases h
        simp only [Lane.mayIssue, Bool.and_eq_true, decide_eq_true_iff] at hmay
        have hfewer : (s.lane l).txns.length < 8 := hmay.1
        simp only [lane_setLane_same, List.length_append, List.length_singleton]
        omega
      · cases h
    · split at h
      · cases h
        simpa using hs
      · cases h

/-- A lane that does another's job serves the same channel. -/
theorem keeps_of_sameJob {x y : Lane} (h : x.SameJob y) (htxns : x.txns.length ≤ 8 → y.txns.length ≤ 8) : x.Keeps y := by
  obtain ⟨hstate, howner, -⟩ := h
  exact ⟨htxns, by rw [hstate], howner, by rw [hstate]; exact id⟩

theorem progress_of_sameJob {x y : Lane} (h : x.SameJob y) : y.progress = x.progress := by
  obtain ⟨-, -, -, -, -, -, hprogress, -⟩ := h
  exact hprogress

theorem lane_of_digestsOk {s : State} (h : digestsOk s = true) (l : LaneNo) : digestOk (s.lane l).progress = true :=
  ((digestsOk_iff s).mp h).2 l

theorem chan_of_digestsOk {s : State} (h : digestsOk s = true) (c : ChanNo) : digestOk (s.chan c).progress = true :=
  ((digestsOk_iff s).mp h).1 c

namespace State.Local

theorem of_laneFrame {s t : State} {l : LaneNo} (h : LaneFrame s l t)
    (htxns : (s.lane l).txns.length ≤ 8 → (t.lane l).txns.length ≤ 8) : s.Local t := by
  obtain ⟨k, q, w, a, x, rfl, hk, hx⟩ := h
  have hx' : ({ s.setLane l x with cache := k, walkQueue := q, walker := w, agenda := a } : State).lane l = x :=
    lane_setLane_same s l x
  rw [hx'] at htxns
  refine (setLane (keeps_of_sameJob hx htxns) fun hd => ?_).trans (of_eq rfl rfl hk rfl)
  rw [progress_of_sameJob hx]
  exact lane_of_digestsOk hd l

theorem pump (s : State) (l : LaneNo) : s.Local (s.pump l) :=
  pump_induct (P := fun t => s.Local t)
    (fun _ _ hs ht => hs.trans (of_laneFrame (laneStep_frame ht) (laneStep_txns ht))) s (refl s)

/-- An update of a lane within its job. -/
theorem modLane_sameJob {s : State} {l : LaneNo} {f : Lane → Lane} (h : (s.lane l).SameJob (f (s.lane l)))
    (htxns : (s.lane l).txns.length ≤ 8 → (f (s.lane l)).txns.length ≤ 8) : s.Local (s.modLane l f) :=
  modLane (keeps_of_sameJob h htxns) fun hd => by
    rw [progress_of_sameJob h]
    exact lane_of_digestsOk hd l

end State.Local

/-! ## Answers (R84, R118, R120, R122) -/

theorem endTxn_sameJob (x : Lane) (k : Nat) : x.SameJob (x.endTxn k) := by simp [Lane.SameJob, Lane.endTxn]

theorem endTxn_length_le (x : Lane) (k : Nat) (h : x.txns.length ≤ 8) : (x.endTxn k).txns.length ≤ 8 :=
  (List.eraseIdx_sublist _ _).length_le.trans h

theorem pointerData_sameJob (x : Lane) (t : LaneTxn) (d : BitVec 64) : x.SameJob (x.pointerData t d) := by
  unfold Lane.pointerData
  split <;> simp [Lane.SameJob]

@[simp] theorem pointerData_txns (x : Lane) (t : LaneTxn) (d : BitVec 64) : (x.pointerData t d).txns = x.txns := by
  unfold Lane.pointerData
  split <;> rfl

@[simp] theorem shapeSlots_length (o : BitVec 512) (limit : Option Nat) (p : Nat) (bs : List BeatSlot) :
    (shapeSlots o limit p bs).1.length = bs.length := by
  induction bs generalizing p with
  | nil => rfl
  | cons b rest ih =>
    unfold shapeSlots
    split
    · simp [ih]
    · split
      · rfl
      · dsimp only
        split
        · rfl
        · simp [ih]

theorem shapeReady_sameJob (x : Lane) : x.SameJob x.shapeReady := by
  unfold Lane.shapeReady
  dsimp only
  have hslots : x.SameJob { x with slots := (shapeSlots x.order (x.failure.map (·.pos)) x.beatStart x.slots).1 } := by
    simp [Lane.SameJob]
  split
  · exact hslots
  · exact sameJob_trans hslots (fail_sameJob _ _)

@[simp] theorem shapeReady_txns (x : Lane) : x.shapeReady.txns = x.txns := by
  unfold Lane.shapeReady
  dsimp only
  split
  · rfl
  · rw [fail_txns]

/-- The count changes the beat buffer and the progress, nothing else of the lane (R120). -/
theorem countUp_frame (n : Nat) (x : Lane) : ∃ slots p, x.countUp n = { x with slots := slots, progress := p } := by
  induction n generalizing x with
  | zero => exact ⟨x.slots, x.progress, rfl⟩
  | succ n ih =>
    unfold Lane.countUp
    split
    · exact ⟨x.slots, x.progress, rfl⟩
    · split
      · obtain ⟨slots, p, h⟩ := ih _
        exact ⟨slots, p, h⟩
      · exact ⟨x.slots, x.progress, rfl⟩

theorem foldBytes_inRange (bs : List Nat) {ab : Nat × Nat}
    (h : ab.1 < Config.digestModulus ∧ ab.2 < Config.digestModulus) :
    (foldBytes ab bs).1 < Config.digestModulus ∧ (foldBytes ab bs).2 < Config.digestModulus := by
  induction bs generalizing ab with
  | nil => exact h
  | cons b bs ih => exact ih ⟨Nat.mod_lt _ (by decide), Nat.mod_lt _ (by decide)⟩

theorem pass_inRange {p : Progress} (h : digestOk p = true) (o : BitVec 512) (sh : Shaped) :
    digestOk (p.pass o sh) = true := by
  simp only [digestOk, Bool.and_eq_true, decide_eq_true_iff] at *
  simp only [Progress.pass, foldShaped]
  split
  · exact foldBytes_inRange _ h
  · exact h

theorem countUp_inRange (n : Nat) {x : Lane} (h : digestOk x.progress = true) :
    digestOk (x.countUp n).progress = true := by
  induction n generalizing x with
  | zero => exact h
  | succ n ih =>
    unfold Lane.countUp
    split
    · exact h
    · split
      · exact ih (pass_inRange h _ _)
      · exact h

theorem count_keeps (x : Lane) : x.Keeps x.count := by
  obtain ⟨_, _, h⟩ := countUp_frame x.slots.length x
  rw [Lane.count, h]
  exact ⟨id, rfl, rfl, id⟩

theorem readData_keeps (x : Lane) (t : LaneTxn) (d : BitVec 64) : x.Keeps (x.readData t d) := by
  unfold Lane.readData
  split
  · exact Lane.keeps_refl x
  · have hshaped (f : BeatSlot → BeatSlot) : x.Keeps (x.modSlot t.pos f).shapeReady :=
      keeps_of_sameJob (sameJob_trans (modSlot_sameJob x _ f) (shapeReady_sameJob _))
        (by rw [shapeReady_txns]; exact id)
    dsimp only
    split
    · exact (hshaped _).trans (count_keeps _)
    · exact hshaped _

theorem readData_inRange {x : Lane} (h : digestOk x.progress = true) (t : LaneTxn) (d : BitVec 64) :
    digestOk (x.readData t d).progress = true := by
  unfold Lane.readData
  split
  · exact h
  · have hshaped (f : BeatSlot → BeatSlot) : digestOk (x.modSlot t.pos f).shapeReady.progress = true := by
      rw [progress_of_sameJob (shapeReady_sameJob _)]
      exact h
    dsimp only
    split
    · exact countUp_inRange _ (hshaped _)
    · exact hshaped _

theorem writeDone_keeps (x : Lane) (t : LaneTxn) : x.Keeps (x.writeDone t) :=
  (keeps_of_sameJob (modSlot_sameJob x _ _) id).trans (count_keeps _)

theorem writeDone_inRange {x : Lane} (h : digestOk x.progress = true) (t : LaneTxn) :
    digestOk (x.writeDone t).progress = true := countUp_inRange _ h

theorem translated_sameJob (x : Lane) (pa : Pa) : x.SameJob (x.translated pa) := by
  unfold Lane.translated
  split <;> simp [Lane.SameJob]

@[simp] theorem translated_txns (x : Lane) (pa : Pa) : (x.translated pa).txns = x.txns := by
  unfold Lane.translated
  split <;> rfl

theorem walkFault_sameJob (x : Lane) (r : WalkRequest) (cause : Cause) (level : Nat) (entry : Pa) :
    x.SameJob (x.walkFault r cause level entry) := by
  unfold Lane.walkFault
  split
  · exact sameJob_trans (y := { x with request := false }) (by simp [Lane.SameJob]) (fail_sameJob _ _)
  · simp [Lane.SameJob]

@[simp] theorem walkFault_txns (x : Lane) (r : WalkRequest) (cause : Cause) (level : Nat) (entry : Pa) :
    (x.walkFault r cause level entry).txns = x.txns := by
  unfold Lane.walkFault
  split
  · rw [fail_txns]
  · rfl

theorem startBeat_keeps {x : Lane} (hbusy : x.state.busy = true) (hdrain : x.state ≠ .draining) : x.Keeps x.startBeat := by
  refine ⟨id, ?_, rfl, fun h => absurd h hdrain⟩
  rw [hbusy]
  unfold Lane.startBeat
  dsimp only
  split <;> rfl

theorem startWritePhase_keeps {x : Lane} (h : x.state = .reading) : x.Keeps x.startWritePhase :=
  ⟨id, by rw [h]; rfl, rfl, by simp [h]⟩

theorem latch_keeps {x : Lane} (h : x.state.busy = true) : x.Keeps x.latch := ⟨id, by rw [h]; rfl, rfl, fun _ => rfl⟩

namespace State.Local

theorem laneTxnFails (s : State) (l : LaneNo) (k : Nat) (t : LaneTxn) (cause : Cause) :
    s.Local (s.laneTxnFails l k t cause) := by
  refine (modLane_sameJob ?_ ?_).trans (pump _ l)
  · split
    · exact endTxn_sameJob _ k
    · exact sameJob_trans (endTxn_sameJob _ k) (fail_sameJob _ _)
  · split
    · exact endTxn_length_le _ k
    · rw [fail_txns]
      exact endTxn_length_le _ k

theorem pointerReadResponse (s : State) (l : LaneNo) (k : Nat) (data : Option (BitVec 64)) :
    s.Local (s.pointerReadResponse l k data) := by
  unfold State.pointerReadResponse
  split
  · split
    · split
      · refine (modLane_sameJob (sameJob_trans (endTxn_sameJob _ k) (pointerData_sameJob _ _ _)) ?_).trans (pump _ l)
        rw [pointerData_txns]
        exact endTxn_length_le _ k
      · exact laneTxnFails s l k _ _
    · exact refl s
  · exact refl s

/-- An answer that may pass positions: what it does to the lane, and everything the lane does then. -/
theorem answered {s : State} {l : LaneNo} {k : Nat} {f : Lane → Lane} (h : ∀ x, Lane.Keeps x (f x))
    (hd : ∀ x, digestOk x.progress = true → digestOk (f x).progress = true) :
    s.Local ((s.modLane l fun x => f (x.endTxn k)).pump l) := by
  refine Local.trans (modLane ?_ fun hs => hd ((s.lane l).endTxn k) (lane_of_digestsOk hs l)) (pump _ l)
  exact (keeps_of_sameJob (endTxn_sameJob _ k) (endTxn_length_le _ k)).trans (h _)

theorem laneReadResponse (s : State) (l : LaneNo) (k : Nat) (data : Option (BitVec 64)) :
    s.Local (s.laneReadResponse l k data) := by
  unfold State.laneReadResponse
  split
  · split
    · exact refl s
    · split
      · exact answered (f := fun x => x.readData _ _) (fun x => readData_keeps x _ _) fun _ h => readData_inRange h _ _
      · exact laneTxnFails s l k _ _
  · exact refl s

theorem laneWriteResponse (s : State) (l : LaneNo) (k : Nat) (ok : Bool) : s.Local (s.laneWriteResponse l k ok) := by
  unfold State.laneWriteResponse
  split
  · split
    · exact refl s
    · split
      · exact answered (f := fun x => x.writeDone _) (fun x => writeDone_keeps x _) fun _ h => writeDone_inRange h _
      · exact laneTxnFails s l k _ _
  · exact refl s

/-! ## The takeover, the beats and the latch (R116, R118, R124) -/

theorem laneTakeover {s : State} {l : LaneNo} (h : (s.lane l).state = .loading) : s.Local (s.laneTakeover l) := by
  unfold State.laneTakeover
  split
  · refine (modLane ?_ fun hs => chan_of_digestsOk hs _).trans (pump _ l)
    exact Lane.Keeps.trans (y := (s.lane l).takeOver (s.chan _)) ⟨id, rfl, rfl, id⟩
      (startBeat_keeps (by simp [Lane.takeOver, h, LaneState.busy]) (by simp [Lane.takeOver, h]))
  · exact refl s

theorem laneBeat {s : State} {l : LaneNo} (hbusy : (s.lane l).state.busy = true)
    (hdrain : (s.lane l).state ≠ .draining) : s.Local (s.laneBeat l) := by
  refine (modLane ?_ fun hs => ?_).trans (pump _ l)
  · split
    · rename_i hmove
      exact startWritePhase_keeps hmove.1
    · exact startBeat_keeps hbusy hdrain
  · split <;> exact lane_of_digestsOk hs l

theorem latchLane (s : State) (l : LaneNo) : s.Local (s.latchLane l) := by
  unfold State.latchLane
  dsimp only
  split
  · exact refl s
  · rename_i hlatch
    have hbusy : (s.lane l).state.busy = true := by simp_all
    generalize hx : (if (s.lane l).state = .loading then
      (s.lane l).takeOver ((s.lane l).owner.elim {} s.chan) else s.lane l) = x
    have hkeeps : (s.lane l).Keeps x := by
      subst hx
      split
      · exact ⟨id, rfl, rfl, id⟩
      · exact Lane.keeps_refl _
    have hdigest (hs : digestsOk s = true) : digestOk x.progress = true := by
      subst hx
      split
      · cases (s.lane l).owner with
        | none => simp [Lane.takeOver, digestOk, Config.digestModulus]
        | some c => exact chan_of_digestsOk hs c
      · exact lane_of_digestsOk hs l
    have hlatched := hkeeps.trans (latch_keeps (x := x) (by rw [hkeeps.busy, hbusy]))
    split
    · have habandon : s.Local (s.abandonRequest l) := of_eq rfl rfl (List.Perm.refl _) rfl
      exact habandon.trans (setLane (s := s.abandonRequest l) hlatched hdigest)
    · exact setLane hlatched hdigest

end State.Local

/-! ## The walker (R129 to R142) -/

namespace State.Local

theorem answerLane (s : State) (a : WalkRequest × Answer) : s.Local (s.answerLane a) := by
  unfold State.answerLane
  split
  · exact refl s
  · split
    · exact modLane_sameJob (translated_sameJob _ _) (by rw [translated_txns]; exact id)
    · exact modLane_sameJob (walkFault_sameJob _ _ _ _ _) (by rw [walkFault_txns]; exact id)

theorem deliver (s : State) (as : Answers) : s.Local (s.deliver as) := by
  refine (foldl answerLane as s).trans (foldl (fun s a => ?_) as _)
  split
  · exact refl s
  · exact pump s _

/-- A step that leaves everything but walks and cache alone. -/
theorem of_cache {s t : State} (hchan : t.channels = s.channels) (hlane : t.lanes = s.lanes)
    (hcache : cacheOk s = true → cacheOk t = true)
    (hcontrol : (t.refusalLog, t.power, t.dozeReq, t.resetN) = (s.refusalLog, s.power, s.dozeReq, s.resetN)) :
    s.Local t :=
  let h : s.Local { t with cache := s.cache } := of_eq hchan hlane (List.Perm.refl _) hcontrol
  ⟨h.chan, h.lane, hcache, h.digests, h.control⟩

theorem endWalk (s : State) (as : Answers) (entry : Option CacheEntry) : s.Local (s.endWalk as entry) := by
  refine Local.trans ?_ (deliver _ as)
  refine of_cache rfl rfl ?_ rfl
  cases entry with
  | none => exact id
  | some e =>
    by_cases h : as.translates = true
    · exact cacheOk_insert (e := e) (if_pos h)
    · exact cacheOk_of_perm (List.Perm.of_eq (if_neg h))

theorem startAttempt (s : State) (w : Walk) : s.Local (s.startAttempt w) := of_eq rfl rfl (List.Perm.refl _) rfl

theorem endAttempt (s : State) (w : Walk) (as : Answers) (entry : Option CacheEntry) :
    s.Local (s.endAttempt w as entry) := by
  unfold State.endAttempt
  split
  · exact startAttempt s _
  · exact endWalk s as entry

theorem walkerFails (s : State) (w : Walker) (cause : Cause) : s.Local (s.walkerFails w cause) := by
  unfold State.walkerFails
  split <;> exact endAttempt s _ _ _

theorem entryRead (s : State) (w : Walk) (level : Nat) (entry : Pa) (e : BitVec 64) :
    s.Local (s.entryRead w level entry e) := by
  unfold State.entryRead
  split
  · exact endAttempt s _ _ _
  · exact of_eq rfl rfl (List.Perm.refl _) rfl
  · unfold State.atLeaf
    split
    · exact of_eq rfl rfl (List.Perm.refl _) rfl
    · exact endAttempt s _ _ _

theorem stopWalker (s : State) : s.Local s.stopWalker := of_eq rfl rfl (List.Perm.refl _) rfl

theorem tableReadResponse (s : State) (data : Option (BitVec 64)) : s.Local (s.tableReadResponse data) := by
  unfold State.tableReadResponse
  split
  · exact refl s
  · split
    · exact refl s
    · split
      · exact stopWalker s
      · split
        · exact entryRead s _ _ _ _
        · exact walkerFails s _ _

theorem compareFailed (s : State) (w : Walk) (level : Nat) (entry : Pa) (leaf : BitVec 64) :
    s.Local (s.compareFailed w level entry leaf) := by
  unfold State.compareFailed
  split
  · exact startAttempt s _
  · split
    · exact startAttempt s _
    · exact endWalk s _ _

theorem exchangeResponse (s : State) (r : ExchangeResult) : s.Local (s.exchangeResponse r) := by
  unfold State.exchangeResponse
  split
  · exact refl s
  · split
    · exact refl s
    · split
      · exact stopWalker s
      · split
        · exact endAttempt s _ _ _
        · exact compareFailed s _ _ _ _
        · exact walkerFails s _ _

end State.Local

/-- A walk's lookups at the head of the queue change the order of the cache only (R137, R139). -/
theorem splitHits_perm (cache : List CacheEntry) (sid : SpaceNo) (rs : List WalkRequest) :
    (splitHits cache sid rs).1.Perm cache := by
  induction rs generalizing cache with
  | nil => exact List.Perm.refl _
  | cons r rest ih =>
    unfold splitHits
    split
    · rename_i pa k h
      obtain ⟨e, he, -, -, rfl⟩ := lookupCache_some h
      exact (ih _).trans (List.perm_cons_erase he).symm
    · exact ih cache

namespace State.Local

theorem startWalk (s : State) (w : Walk) (rest : List Walk) : s.Local (s.startWalk w rest) := by
  have hperm := splitHits_perm s.cache w.sid w.requests
  unfold State.startWalk
  dsimp only
  split <;> refine Local.trans ?_ (deliver _ _) <;> exact of_eq rfl rfl hperm rfl

theorem expireTxn (s : State) (t : TxnRef) : s.Local (s.expireTxn t) := by
  unfold State.expireTxn
  split
  · exact refl s
  · cases t <;> dsimp only <;> split
    · exact laneTxnFails s _ _ _ _
    · exact refl s
    · exact walkerFails s _ _
    · exact refl s
    · exact ringTxnFails s _ _ _ _
    · exact refl s

/-! ## Every lane, every channel -/

theorem modLanes {s : State} {f : Lane → Lane} (h : ∀ x, Lane.Keeps x (f x)) (hp : ∀ x, (f x).progress = x.progress) :
    s.Local (s.modLanes f) :=
  foldl (fun s l => modLane (h _) fun hd => by rw [hp]; exact lane_of_digestsOk hd l) _ s

theorem modChannels {s : State} {f : Channel → Channel} (h : ∀ x, Channel.Keeps x (f x))
    (hp : ∀ x, (f x).progress = x.progress) : s.Local (s.modChannels f) :=
  foldl (fun s c => modChan (h _) (by rw [hp]; exact id)) _ s

theorem startInvalidation (s : State) : s.Local s.startInvalidation := by
  refine Local.trans ?_ (modLanes (f := Lane.markOld) (fun x => ⟨by simp [Lane.markOld], rfl, rfl, id⟩) fun _ => rfl)
  exact of_cache rfl rfl (cacheOk_of_sublist List.filter_sublist) rfl

theorem tickOn_keeps (x : Channel) : x.Keeps x.tickOn := by
  refine ⟨id, ?_, ?_, id, Iff.rfl, id⟩
  · simp [Channel.CoalescingOk, Channel.tickOn]
  · simp [Channel.WaitOk, Channel.tickOn]

theorem tickBoundary (s : State) : s.Local s.tickBoundary := by
  unfold State.tickBoundary
  split
  · refine Local.trans ?_ (callFor _ _)
    refine Local.trans ?_ (modLanes (fun x => ⟨by simp [Lane.tickOn], rfl, rfl, id⟩) fun _ => rfl)
    refine Local.trans ?_ (modChannels tickOn_keeps fun _ => rfl)
    exact of_eq rfl rfl (List.Perm.refl _) rfl
  · exact refl s

end State.Local

end Sys2Proof.Machine
end

section
/-! SUPPORT. The steps in which a lane is granted or released, a channel is enabled, disabled or reset, and the power
state changes, with what they keep; then register writes and commands. -/

namespace Sys2Proof.Machine

open Sys2Proof.Safety

/-! ## Updates of every channel or every lane -/

theorem chan_foldl_modChan (f : ChanNo → Channel → Channel) (as : List ChanNo) (hnodup : as.Nodup) (s : State)
    (c : ChanNo) :
    (as.foldl (fun s d => s.modChan d (f d)) s).chan c = if c ∈ as then f c (s.chan c) else s.chan c := by
  induction as generalizing s with
  | nil => rfl
  | cons d rest ih =>
    obtain ⟨hd, hrest⟩ := List.nodup_cons.mp hnodup
    rw [List.foldl_cons, ih hrest]
    by_cases hc : c = d
    · subst hc
      simp [hd]
    · simp [hc, chan_modChan_ne]

theorem lane_foldl_modLane (f : LaneNo → Lane → Lane) (as : List LaneNo) (hnodup : as.Nodup) (s : State) (l : LaneNo) :
    (as.foldl (fun s m => s.modLane m (f m)) s).lane l = if l ∈ as then f l (s.lane l) else s.lane l := by
  induction as generalizing s with
  | nil => rfl
  | cons m rest ih =>
    obtain ⟨hm, hrest⟩ := List.nodup_cons.mp hnodup
    rw [List.foldl_cons, ih hrest]
    by_cases hl : l = m
    · subst hl
      simp [hm]
    · simp [hl, lane_modLane_ne]

/-- Every channel updated, each by its own function: nothing else changes. -/
theorem chan_foldl_allChannels (f : ChanNo → Channel → Channel) (s : State) (c : ChanNo) :
    (allChannels.foldl (fun s d => s.modChan d (f d)) s).chan c = f c (s.chan c) := by
  rw [chan_foldl_modChan f _ (by decide), if_pos (mem_allChannels c)]

theorem lane_foldl_allLanes (f : LaneNo → Lane → Lane) (s : State) (l : LaneNo) :
    (allLanes.foldl (fun s m => s.modLane m (f m)) s).lane l = f l (s.lane l) := by
  rw [lane_foldl_modLane f _ (by decide), if_pos (mem_allLanes l)]

theorem foldl_modChan_frame (f : ChanNo → Channel → Channel) (as : List ChanNo) (s : State) :
    as.foldl (fun s d => s.modChan d (f d)) s =
      { s with channels := (as.foldl (fun s d => s.modChan d (f d)) s).channels } :=
  List.foldlRecOn (motive := fun t : State => t = { s with channels := t.channels }) as _ rfl fun t ht d _ => by
    rw [ht]
    rfl

theorem foldl_modLane_frame (f : LaneNo → Lane → Lane) (as : List LaneNo) (s : State) :
    as.foldl (fun s m => s.modLane m (f m)) s =
      { s with lanes := (as.foldl (fun s m => s.modLane m (f m)) s).lanes } :=
  List.foldlRecOn (motive := fun t : State => t = { s with lanes := t.lanes }) as _ rfl fun t ht m _ => by
    rw [ht]
    rfl

/-! ## The release of a lane (R111, R112, R121, R122, R124) -/

/-- A busy lane is released, and the channel it serves, if it was RUNNING, leaves RUNNING with it unless a soft reset
is under way. -/
structure Releases (s t : State) (l : LaneNo) : Prop where
  busy : (s.lane l).state.busy = true
  idle : (t.lane l).state.busy = false ∧ (t.lane l).owner = none ∧ (t.lane l).txns = []
  others : ∀ m, m ≠ l → t.lane m = s.lane m
  channels : ∀ d, (s.lane l).owner ≠ some d → t.chan d = s.chan d
  flags : ∀ c, (s.lane l).owner = some c → (s.chan c).FlagsOk → (t.chan c).FlagsOk
  coalescing : ∀ c, (s.lane l).owner = some c → (s.chan c).CoalescingOk → (t.chan c).CoalescingOk
  leaves : ∀ c, (s.lane l).owner = some c → s.power ≠ .resetting → (t.chan c).state ≠ .running
  wait : ∀ c, (s.lane l).owner = some c → s.Serves l → (s.chan c).WaitOk → (t.chan c).WaitOk
  lap : ∀ c, (s.lane l).owner = some c → s.Serves l → (s.chan c).LapOk → (t.chan c).LapOk
  cache : t.cache = s.cache
  digests : digestsOk s = true → digestsOk t = true
  control : (t.refusalLog, t.power, t.dozeReq, t.resetN) = (s.refusalLog, s.power, s.dozeReq, s.resetN)

namespace Releases

variable {s t : State} {l : LaneNo}

theorem lanesOk (h : Releases s t l) (hs : s.LanesOk) : t.LanesOk := by
  have hc := h.control
  simp only [Prod.mk.injEq] at hc
  obtain ⟨-, hpower, -, hreset⟩ := hc
  obtain ⟨hidle, hnone, -⟩ := h.idle
  have hbusy (m : LaneNo) (hm : (t.lane m).state.busy = true) : m ≠ l := by
    rintro rfl
    simp [hidle] at hm
  constructor
  · intro m
    by_cases hm : m = l
    · subst hm
      simp [State.Serves, hidle, hnone]
    · have hserves := hs.serves m
      unfold State.Serves at *
      rw [h.others m hm]
      split
      · rename_i hbusym
        rw [if_pos hbusym] at hserves
        obtain ⟨d, howner, hstate⟩ := hserves
        have hd : (s.lane l).owner ≠ some d := fun e => hm (hs.unique m l hbusym (howner.trans e.symm))
        exact ⟨d, howner, by rwa [h.channels d hd]⟩
      · rwa [if_neg ‹_›] at hserves
  · intro m n hm howner
    have hml := hbusy m hm
    rw [h.others m hml] at hm howner
    by_cases hn : n = l
    · subst hn
      have hserves := hs.serves m
      rw [State.Serves, if_pos hm] at hserves
      obtain ⟨d, hd, -⟩ := hserves
      rw [hd, hnone] at howner
      cases howner
    · rw [h.others n hn] at howner
      exact hs.unique m n hm howner
  · rw [hpower, hreset]
    exact hs.low
  · intro hp c hrun
    rw [hpower] at hp
    have hc : (s.lane l).owner ≠ some c := fun howner => h.leaves c howner hp hrun
    rw [h.channels c hc] at hrun
    obtain ⟨m, hm, howner⟩ := hs.holds hp c hrun
    have hml : m ≠ l := by
      rintro rfl
      exact hc howner
    exact ⟨m, by rwa [h.others m hml], by rwa [h.others m hml]⟩

/-- What holds of each channel before a release holds after it. -/
theorem channelwise (h : Releases s t l) {P : Channel → Prop}
    (hP : ∀ c, (s.lane l).owner = some c → P (s.chan c) → P (t.chan c)) (hs : ∀ c, P (s.chan c)) (c : ChanNo) :
    P (t.chan c) := by
  by_cases hc : (s.lane l).owner = some c
  · exact hP c hc (hs c)
  · rw [h.channels c hc]
    exact hs c

theorem keeps (h : Releases s t l) : s.Keeps t := by
  have hc := h.control
  simp only [Prod.mk.injEq] at hc
  obtain ⟨hlog, hpower, hdoze, hreset⟩ := hc
  constructor
  · simp [refusalLogOk, hlog]
  · simp [dozeOk, hpower, hdoze, hreset]
  · simp only [pendingFlagsOk_iff]
    exact h.channelwise h.flags
  · simp only [coalescingOk_iff]
    exact h.channelwise h.coalescing
  · simp only [laneTransactionsOk_iff]
    intro hs m
    by_cases hm : m = l
    · subst hm
      simp [h.idle]
    · rw [h.others m hm]
      exact hs m
  · exact cacheOk_of_perm (List.Perm.of_eq h.cache)
  · exact h.digests
  · simp only [lanesOk_iff]
    exact h.lanesOk
  · simp only [lanesOk_iff, waitsOk_iff]
    exact fun hl => h.channelwise fun c howner => h.wait c howner (hl.serves l)
  · simp only [lanesOk_iff, lapOk_iff]
    exact fun hl => h.channelwise fun c howner => h.lap c howner (hl.serves l)

end Releases

/-- The lane a release leaves: FREE or DISABLED, with nothing in it. -/
theorem releaseLane_lane (s : State) (l : LaneNo) :
    (s.releaseLane l).lane l = { state := if s.laneEnable.getLsbD l.val then .free else .disabled } := by
  rw [releaseLane_eq]
  exact lane_setLane_same s l _

theorem releaseLane_lane_ne (s : State) {l m : LaneNo} (h : m ≠ l) : (s.releaseLane l).lane m = s.lane m := by
  rw [releaseLane_eq]
  exact lane_setLane_ne s _ h

@[simp] theorem releaseLane_chan (s : State) (l : LaneNo) (c : ChanNo) : (s.releaseLane l).chan c = s.chan c := by
  rw [releaseLane_eq]
  rfl

theorem releaseLane_idle (s : State) (l : LaneNo) :
    ((s.releaseLane l).lane l).state.busy = false ∧ ((s.releaseLane l).lane l).owner = none ∧
      ((s.releaseLane l).lane l).txns = [] := by
  rw [releaseLane_lane]
  refine ⟨?_, rfl, rfl⟩
  dsimp only
  split <;> rfl

theorem releaseLane_digests {s : State} (l : LaneNo) (h : digestsOk s = true) : digestsOk (s.releaseLane l) = true := by
  rw [digestsOk_iff] at *
  refine ⟨fun c => by rw [releaseLane_chan]; exact h.1 c, fun m => ?_⟩
  by_cases hm : m = l
  · subst hm
    rw [releaseLane_lane]
    simp [digestOk, Config.digestModulus]
  · rw [releaseLane_lane_ne s hm]
    exact h.2 m

/-- A release that leaves the channels alone: the channel served is not RUNNING, or a soft reset is under way. -/
theorem releaseLane_keeps {s : State} {l : LaneNo} (hbusy : (s.lane l).state.busy = true)
    (h : ∀ c, (s.lane l).owner = some c → s.power ≠ .resetting → (s.chan c).state ≠ .running) :
    s.Keeps (s.releaseLane l) :=
  Releases.keeps (l := l)
    { busy := hbusy
      idle := releaseLane_idle s l
      others := fun _ => releaseLane_lane_ne s
      channels := fun d _ => releaseLane_chan s l d
      flags := fun c _ => by rw [releaseLane_chan]; exact id
      coalescing := fun c _ => by rw [releaseLane_chan]; exact id
      leaves := fun c howner => by rw [releaseLane_chan]; exact h c howner
      wait := fun c _ _ => by rw [releaseLane_chan]; exact id
      lap := fun c _ _ => by rw [releaseLane_chan]; exact id
      cache := by rw [releaseLane_eq]; rfl
      digests := releaseLane_digests l
      control := by rw [releaseLane_eq]; rfl }

/-- A lane hands its order back with its progress: the channel first, then the release. -/
theorem handBack_eq (s : State) (l : LaneNo) (c : ChanNo) (f : Channel → Channel) :
    ((s.returnProgress l c).releaseLane l).modChan c f =
      (s.releaseLane l).setChan c (f { s.chan c with progress := (s.lane l).progress }) := by
  have hrelease : (s.returnProgress l c).releaseLane l = (s.releaseLane l).setChan c { s.chan c with progress := (s.lane l).progress } := by
    rw [releaseLane_eq, releaseLane_eq]
    rfl
  rw [hrelease, State.modChan, chan_setChan_same, setChan_setChan]

/-- A channel that leaves RUNNING as its lane hands the order back: for a state that serves no lane, its events, its
ring and no wait entry kept, with the lane's progress. -/
structure Channel.LeavesRunning (x y : Channel) (p : Progress) : Prop where
  state : y.state ≠ .running ∧ y.state ≠ .syncWait
  flags : x.FlagsOk → y.FlagsOk
  events : (y.coalesceTimer, y.coalesceCount) = (x.coalesceTimer, x.coalesceCount)
  ring : (y.cfg.cqSize, y.lap, y.cqTail) = (x.cfg.cqSize, x.lap, x.cqTail)
  wait : x.wait = none → y.wait = none
  progress : y.progress = p

theorem handBack_keeps {s : State} {l : LaneNo} {c : ChanNo} {y : Channel} (hbusy : (s.lane l).state.busy = true)
    (hdrain : (s.lane l).state = .draining → (s.chan c).state = .running) (howner : (s.lane l).owner = some c)
    (h : (s.chan c).LeavesRunning y (s.lane l).progress) : s.Keeps ((s.releaseLane l).setChan c y) := by
  have hrunning (hserves : s.Serves l) : (s.chan c).state = .running := by
    rw [State.Serves, if_pos hbusy] at hserves
    obtain ⟨d, hd, hrun | ⟨-, hdraining⟩⟩ := hserves
    · obtain rfl : d = c := by simpa [howner] using hd.symm
      exact hrun
    · exact hdrain hdraining
  have hevents := h.events
  have hring := h.ring
  simp only [Prod.mk.injEq] at hevents hring
  obtain ⟨htimer, hcount⟩ := hevents
  obtain ⟨hsize, hlap, htail⟩ := hring
  have hchan (d : ChanNo) (hd : (s.lane l).owner = some d) :
      s.chan d = s.chan c ∧ ((s.releaseLane l).setChan c y).chan d = y := by
    obtain rfl : d = c := by simpa [howner] using hd.symm
    exact ⟨rfl, chan_setChan_same _ _ _⟩
  refine Releases.keeps (l := l)
    { busy := hbusy
      idle := releaseLane_idle s l
      others := fun m hm => releaseLane_lane_ne s hm
      channels := fun d hd => ?_
      flags := fun d hd => ?_
      coalescing := fun d hd => ?_
      leaves := fun d hd _ => ?_
      wait := fun d hd hserves => ?_
      lap := fun d hd hserves => ?_
      cache := by rw [setChan_cache, releaseLane_eq]; rfl
      digests := fun hs => ?_
      control := by simp [releaseLane_eq] }
  case refine_1 =>
    have hdc : d ≠ c := fun e => hd (howner.trans (by rw [e]))
    rw [chan_setChan_ne _ _ hdc, releaseLane_chan]
  case refine_7 =>
    have hreleased := releaseLane_digests l hs
    rw [digestsOk_iff] at *
    refine ⟨fun d => ?_, hreleased.2⟩
    by_cases hd : d = c
    · subst hd
      rw [chan_setChan_same, h.progress]
      exact hs.2 l
    · rw [chan_setChan_ne _ _ hd]
      exact hreleased.1 d
  all_goals
    obtain ⟨hsame, hnew⟩ := hchan d hd
    rw [hnew]
    try rw [hsame]
  case refine_2 => exact h.flags
  case refine_3 => simp [Channel.CoalescingOk, htimer, hcount]
  case refine_4 => exact h.state.1
  case refine_5 =>
    intro hwait
    have hnone : (s.chan c).wait = none := by simpa [Channel.WaitOk, hrunning hserves] using hwait
    simp [Channel.WaitOk, h.wait hnone, h.state.2]
  case refine_6 =>
    simp only [Channel.LapOk, ChannelConfig.cqSlots, hsize, hlap, htail, hrunning hserves]
    exact fun hs _ _ => hs (by simp) (by simp)

/-! ## The ends of a lane (R116, R118, R119, R121, R122, R124) -/

theorem cleanEnd_ne (x : Lane) : x.cleanEnd ≠ some .takeover ∧ x.cleanEnd ≠ some .drain := by
  unfold Lane.cleanEnd
  repeat' split
  all_goals simp

theorem failedEnd_ne (x : Lane) (f : Failure) : x.failedEnd f ≠ some .takeover ∧ x.failedEnd f ≠ some .drain := by
  unfold Lane.failedEnd
  repeat' split
  all_goals simp

theorem ending_takeover_iff (x : Lane) : x.ending = some .takeover ↔ x.state = .loading := by
  have hclean := (cleanEnd_ne x).1
  have hfailed (f : Failure) := (failedEnd_ne x f).1
  unfold Lane.ending
  cases hstate : x.state <;> simp only [reduceCtorEq, iff_false]
  case reading | writing =>
    split
    · simp
    · cases x.failure with
      | none => exact hclean
      | some f => exact hfailed f
  case draining => split <;> simp

theorem ending_drain_iff (x : Lane) : x.ending = some .drain ↔ x.state = .draining ∧ x.txns = [] := by
  have hclean := (cleanEnd_ne x).2
  have hfailed (f : Failure) := (failedEnd_ne x f).2
  unfold Lane.ending
  cases hstate : x.state <;> simp only [reduceCtorEq, false_and, iff_false, Option.some.injEq]
  case reading | writing =>
    split
    · simp
    · cases x.failure with
      | none => exact hclean
      | some f => exact hfailed f
  case draining => simp

/-- Every other end is one of a lane that carries out a beat. -/
theorem working_of_ending {x : Lane} {e : LaneEnd} (h : x.ending = some e) (htakeover : e ≠ .takeover)
    (hdrain : e ≠ .drain) : x.state = .reading ∨ x.state = .writing := by
  cases hstate : x.state with
  | reading => exact .inl rfl
  | writing => exact .inr rfl
  | loading =>
    rw [(ending_takeover_iff x).mpr hstate] at h
    exact absurd (Option.some.inj h).symm htakeover
  | draining =>
    simp only [Lane.ending, hstate] at h
    split at h
    · exact absurd (Option.some.inj h).symm hdrain
    · cases h
  | free | disabled => simp [Lane.ending, hstate] at h

theorem busy_of_working {x : Lane} (h : x.state = .reading ∨ x.state = .writing) :
    x.state.busy = true ∧ x.state ≠ .draining := by
  obtain h | h := h <;> simp [h, LaneState.busy]

theorem takeoverStep_keeps (s : State) (l : LaneNo) : s.Keeps (s.takeoverStep l) := by
  unfold State.takeoverStep
  split
  · exact (State.Local.laneTakeover ((ending_takeover_iff _).mp ‹_›)).keeps
  · exact s.keeps_refl

theorem beatStep_keeps (s : State) (l : LaneNo) : s.Keeps (s.beatStep l) := by
  unfold State.beatStep
  split
  · obtain ⟨hbusy, hdrain⟩ := busy_of_working (working_of_ending ‹_› (by simp) (by simp))
    exact (State.Local.laneBeat hbusy hdrain).keeps
  · exact s.keeps_refl

/-- An order goes back to its channel, which enters COMPLETING. -/
theorem handBack_completing {s : State} {l : LaneNo} {c : ChanNo} (hbusy : (s.lane l).state.busy = true)
    (hdrain : (s.lane l).state = .draining → (s.chan c).state = .running) (howner : (s.lane l).owner = some c)
    (status : Status) (result : BitVec 32) :
    s.Keeps (((s.returnProgress l c).releaseLane l).enterCompleting c status result) := by
  refine State.Keeps.trans ?_ (State.Local.enterCompleting_after _ c status result).keeps
  rw [handBack_eq]
  refine handBack_keeps hbusy hdrain howner ⟨?_, fun _ => toCompleting_flags _ _, rfl, rfl, fun _ => rfl, rfl⟩
  simp [Channel.toCompleting]

theorem orderEndStep_keeps (s : State) (l : LaneNo) : s.Keeps (s.orderEndStep l) := by
  unfold State.orderEndStep
  split
  · obtain ⟨hbusy, hdrain⟩ := busy_of_working (working_of_ending ‹_› (by simp) (by simp))
    unfold State.laneOrderEnd
    split
    · exact handBack_completing hbusy (fun h => absurd h hdrain) ‹_› _ _
    · exact releaseLane_keeps hbusy (by simp [*])
  · exact s.keeps_refl

theorem handoverStep_keeps (s : State) (l : LaneNo) : s.Keeps (s.handoverStep l) := by
  unfold State.handoverStep
  split
  · obtain ⟨hbusy, hdrain⟩ := busy_of_working (working_of_ending ‹_› (by simp) (by simp))
    unfold State.laneHandover
    split
    · refine State.Keeps.trans ?_ (State.Local.tell _ _ _).keeps
      rw [handBack_eq]
      refine handBack_keeps hbusy (fun h => absurd h hdrain) ‹_› ⟨by simp, ?_, rfl, rfl, id, rfl⟩
      simp [Channel.FlagsOk, pauseAllowed]
    · exact releaseLane_keeps hbusy (by simp [*])
  · exact s.keeps_refl

theorem drainEndStep_keeps (s : State) (l : LaneNo) : s.Keeps (s.drainEndStep l) := by
  unfold State.drainEndStep
  split
  · obtain ⟨hdraining, -⟩ := (ending_drain_iff _).mp ‹_›
    have hbusy : (s.lane l).state.busy = true := by rw [hdraining]; rfl
    unfold State.laneDrainEnd
    split
    · split
      · rename_i hrun
        exact handBack_completing hbusy (fun _ => hrun.2) ‹_› _ _
      · rename_i c howner hrun
        refine releaseLane_keeps hbusy fun d hd hp => ?_
        obtain rfl : d = c := by simpa [howner] using hd.symm
        exact fun h => hrun ⟨hp, h⟩
    · exact releaseLane_keeps hbusy (by simp [*])
  · exact s.keeps_refl

/-! ## The grant (R113 to R115) -/

/-- A grant in full: every channel passed over or taken, the lane loading, the pointer at the winner. -/
theorem grant_eq (s : State) (c : ChanNo) (l : LaneNo) :
    ∃ cs, s.grant c l = { s.setLane l { state := .loading, owner := some c } with channels := cs, roundRobin := c } ∧
      ∀ d, ({ s with channels := cs } : State).chan d = (s.chan d).passedOver (d == c) := by
  have hframe := foldl_modChan_frame (fun d ch => ch.passedOver (d == c)) allChannels s
  have hchan := chan_foldl_allChannels (fun d ch => ch.passedOver (d == c)) s
  unfold State.grant
  dsimp only
  generalize allChannels.foldl (fun s d => s.modChan d fun ch => ch.passedOver (d == c)) s = u at hframe hchan ⊢
  refine ⟨u.channels, ?_, hchan⟩
  rw [hframe]
  rfl

theorem grant_chan (s : State) (c : ChanNo) (l : LaneNo) (d : ChanNo) :
    (s.grant c l).chan d = (s.chan d).passedOver (d == c) := by
  obtain ⟨cs, h, hchan⟩ := grant_eq s c l
  rw [h]
  exact hchan d

theorem grant_lane_same (s : State) (c : ChanNo) (l : LaneNo) :
    (s.grant c l).lane l = { state := .loading, owner := some c } := by
  obtain ⟨cs, h, -⟩ := grant_eq s c l
  rw [h]
  exact lane_setLane_same s l _

theorem grant_lane_ne (s : State) (c : ChanNo) {l m : LaneNo} (h : m ≠ l) : (s.grant c l).lane m = s.lane m := by
  obtain ⟨cs, e, -⟩ := grant_eq s c l
  rw [e]
  exact lane_setLane_ne s _ h

theorem grant_frame (s : State) (c : ChanNo) (l : LaneNo) :
    s.grant c l = { s with channels := (s.grant c l).channels, lanes := (s.grant c l).lanes, roundRobin := c } := by
  obtain ⟨cs, h, -⟩ := grant_eq s c l
  rw [h]
  rfl

/-- A channel that does not win keeps all but its pass-over count (R115). -/
theorem passedOver_lost (x : Channel) :
    x.passedOver false = { x with passOver := if x.state = .queued then satInc x.passOver else x.passOver } := by
  unfold Channel.passedOver
  by_cases h : x.state = .queued <;> simp [h]

theorem grant_chan_winner (s : State) (c : ChanNo) (l : LaneNo) :
    (s.grant c l).chan c = { s.chan c with state := .running, passOver := 0 } := by
  rw [grant_chan]
  simp [Channel.passedOver]

theorem grant_chan_ne (s : State) {c d : ChanNo} (l : LaneNo) (h : d ≠ c) :
    ∃ p, (s.grant c l).chan d = { s.chan d with passOver := p } := by
  rw [grant_chan, beq_false_of_ne h, passedOver_lost]
  exact ⟨_, rfl⟩

theorem grant_lanesOk {s : State} {c : ChanNo} {l : LaneNo} (hc : (s.chan c).state = .queued)
    (hl : (s.lane l).state = .free) (hs : s.LanesOk) : (s.grant c l).LanesOk := by
  have hbusy (m : LaneNo) (hm : (s.lane m).state.busy = true) : m ≠ l := by
    rintro rfl
    simp [hl, LaneState.busy] at hm
  have hserved (m : LaneNo) (hm : (s.lane m).state.busy = true) : (s.lane m).owner ≠ some c := by
    have hserves := hs.serves m
    rw [State.Serves, if_pos hm] at hserves
    obtain ⟨d, howner, hstate⟩ := hserves
    rintro e
    obtain rfl : d = c := by simpa [e] using howner.symm
    simp [hc] at hstate
  constructor
  · intro m
    by_cases hm : m = l
    · subst hm
      simp [State.Serves, grant_lane_same, LaneState.busy, grant_chan_winner]
    · have hserves := hs.serves m
      unfold State.Serves at *
      rw [grant_lane_ne s c hm]
      split
      · rename_i hbusym
        rw [if_pos hbusym] at hserves
        obtain ⟨d, howner, hstate⟩ := hserves
        obtain ⟨p, h⟩ := grant_chan_ne s l (c := c) (d := d) fun e => hserved m hbusym (e ▸ howner)
        exact ⟨d, howner, by rwa [h]⟩
      · rwa [if_neg ‹_›] at hserves
  · intro m n hm howner
    by_cases hml : m = l
    · subst hml
      by_cases hn : n = m
      · exact hn.symm
      · rw [grant_lane_same, grant_lane_ne s c hn] at howner
        have hserves := hs.serves n
        unfold State.Serves at hserves
        split at hserves
        · exact absurd howner.symm (hserved n ‹_›)
        · rw [hserves] at howner
          cases howner
    · rw [grant_lane_ne s c hml] at hm howner
      by_cases hn : n = l
      · subst hn
        rw [grant_lane_same] at howner
        exact absurd howner (hserved m hm)
      · rw [grant_lane_ne s c hn] at howner
        exact hs.unique m n hm howner
  · rw [grant_frame]
    exact hs.low
  · intro hp d hrun
    by_cases hd : d = c
    · subst hd
      exact ⟨l, by simp [grant_lane_same, LaneState.busy]⟩
    · obtain ⟨p, h⟩ := grant_chan_ne s l hd
      rw [h] at hrun
      obtain ⟨m, hm, howner⟩ := hs.holds (by rwa [grant_frame] at hp) d hrun
      exact ⟨m, by rwa [grant_lane_ne s c (hbusy m hm)], by rwa [grant_lane_ne s c (hbusy m hm)]⟩

theorem grant_keeps {s : State} {c : ChanNo} {l : LaneNo} (hc : (s.chan c).state = .queued)
    (hl : (s.lane l).state = .free) : s.Keeps (s.grant c l) := by
  have hchan {P : Channel → Prop} (hP : P (s.chan c) → P { s.chan c with state := .running, passOver := 0 })
      (hframe : ∀ x p, P x → P { x with passOver := p }) (hs : ∀ d, P (s.chan d)) (d : ChanNo) :
      P ((s.grant c l).chan d) := by
    by_cases hd : d = c
    · subst hd
      rw [grant_chan_winner]
      exact hP (hs d)
    · obtain ⟨p, h⟩ := grant_chan_ne s l hd
      rw [h]
      exact hframe _ p (hs d)
  have hrefusal : (s.grant c l).refusalLog = s.refusalLog := by rw [grant_frame]
  have hdoze : ((s.grant c l).dozeReq, (s.grant c l).power, (s.grant c l).resetN) = (s.dozeReq, s.power, s.resetN) := by
    rw [grant_frame]
  simp only [Prod.mk.injEq] at hdoze
  obtain ⟨hdozeReq, hpower, hreset⟩ := hdoze
  constructor
  · simp [refusalLogOk, hrefusal]
  · simp [dozeOk, hdozeReq, hpower, hreset]
  · simp only [pendingFlagsOk_iff]
    refine hchan (fun _ => ?_) fun _ _ => id
    simp [Channel.FlagsOk, pauseAllowed, abortAllowed]
  · simp only [coalescingOk_iff]
    exact hchan id fun _ _ => id
  · simp only [laneTransactionsOk_iff]
    intro hs m
    by_cases hm : m = l
    · subst hm
      simp [grant_lane_same]
    · rw [grant_lane_ne s c hm]
      exact hs m
  · exact cacheOk_of_perm (List.Perm.of_eq (by rw [grant_frame]))
  · simp only [digestsOk_iff]
    refine fun hs => ⟨hchan (P := fun x => digestOk x.progress = true) id (fun _ _ => id) hs.1, fun m => ?_⟩
    by_cases hm : m = l
    · subst hm
      simp [grant_lane_same, digestOk, Config.digestModulus]
    · rw [grant_lane_ne s c hm]
      exact hs.2 m
  · simp only [lanesOk_iff]
    exact grant_lanesOk hc hl
  · simp only [waitsOk_iff]
    refine fun _ => hchan (fun h => ?_) fun _ _ => id
    simpa [Channel.WaitOk, hc] using h
  · simp only [lapOk_iff]
    refine fun _ => hchan (fun h _ _ => h (by simp [hc]) (by simp [hc])) fun _ _ => id

/-- The winner of a grant decision is QUEUED (R114). -/
theorem queued_of_grantWinner {s : State} {c : ChanNo} (h : s.grantWinner = some c) : (s.chan c).state = .queued := by
  have := List.find?_some h
  simp only [State.isQueued, Bool.and_eq_true, beq_iff_eq] at this
  exact this.1

theorem free_of_grantLane {s : State} {l : LaneNo} (h : s.grantLane = some l) : (s.lane l).state = .free := by
  simpa using List.find?_some h

theorem grantStep_keeps (s : State) : s.Keeps s.grantStep := by
  unfold State.grantStep
  split
  · split
    · exact grant_keeps (queued_of_grantWinner ‹_›) (free_of_grantLane ‹_›)
    · exact s.keeps_refl
  · exact s.keeps_refl

end Sys2Proof.Machine
end

section
/-! SUPPORT. What resets, the power state, register writes and channel commands keep of the conditions of Safety. -/

namespace Sys2Proof.Machine

open Sys2Proof.Safety

theorem keeps_of_eq {s t : State} (hchan : t.channels = s.channels) (hlane : t.lanes = s.lanes)
    (hcache : t.cache = s.cache)
    (hcontrol : (t.refusalLog, t.power, t.dozeReq, t.resetN) = (s.refusalLog, s.power, s.dozeReq, s.resetN)) :
    s.Keeps t := (State.Local.of_eq hchan hlane (List.Perm.of_eq hcache) hcontrol).keeps

theorem keeps_of_vitals {s : State} {c : ChanNo} {f : Channel → Channel}
    (h : (f (s.chan c)).vitals = (s.chan c).vitals) (hp : (f (s.chan c)).progress = (s.chan c).progress) :
    s.Keeps (s.modChan c f) := (State.Local.modChan_vitals h hp).keeps

/-! ## Resets (R37, R177 to R180) -/

/-- A state that meets every condition ends a step that keeps them. -/
theorem keeps_of_safe {s t : State} (h : safe t = true) : s.Keeps t := by
  simp only [safe, Bool.and_eq_true] at h
  obtain ⟨⟨⟨⟨⟨⟨⟨⟨⟨hlog, hdoze⟩, hflags⟩, hcoalescing⟩, htxns⟩, hcache⟩, hdigests⟩, hlanes⟩, hwaits⟩, hlap⟩ := h
  exact ⟨fun _ => hlog, fun _ => hdoze, fun _ => hflags, fun _ => hcoalescing, fun _ => htxns, fun _ => hcache,
    fun _ => hdigests, fun _ => hlanes, fun _ _ => hwaits, fun _ _ => hlap⟩

theorem safe_reset : safe State.reset = true := by decide

theorem safe_resetLow : safe { State.reset with resetN := false } = true := by decide

theorem engineReset_keeps (s : State) (cause : ResetCause) : s.Keeps (s.engineReset cause) := keeps_of_safe safe_reset

theorem resetLow_keeps (s : State) : s.Keeps s.resetLow := keeps_of_safe safe_resetLow

theorem softResetEnd_keeps (s : State) : s.Keeps s.softResetEnd := by
  unfold State.softResetEnd
  split
  · exact engineReset_keeps s _
  · exact s.keeps_refl

/-- A CLEARING channel that holds no lane is DISABLED, its context blank. -/
theorem channelResetEnd_keeps (s : State) (c : ChanNo) : s.Keeps (s.channelResetEnd c) := by
  unfold State.channelResetEnd
  split
  case isFalse => exact s.keeps_refl
  rename_i hdue
  simp only [State.channelResetDue, Bool.and_eq_true, beq_iff_eq, Option.isNone_iff_eq_none] at hdue
  obtain ⟨⟨⟨-, hclearing⟩, hheld⟩, -⟩ := hdue
  refine State.Keeps.trans ?_ (State.Local.callFor _ _).keeps
  have hchan {P : Channel → Prop} (hP : P (s.chan c).afterReset) (hs : ∀ d, P (s.chan d)) (d : ChanNo) :
      P ((s.modChan c Channel.afterReset).chan d) := by
    by_cases hd : d = c
    · subst hd
      rwa [chan_modChan_same]
    · rw [chan_modChan_ne _ _ hd]
      exact hs d
  constructor
  · exact id
  · exact id
  · simp only [pendingFlagsOk_iff]
    exact hchan (by simp [Channel.FlagsOk, Channel.afterReset])
  · simp only [coalescingOk_iff]
    exact hchan (by simp [Channel.CoalescingOk, Channel.afterReset])
  · exact id
  · exact id
  · simp only [digestsOk_iff]
    exact fun hs => ⟨hchan (P := fun x => digestOk x.progress = true) rfl hs.1, hs.2⟩
  · simp only [lanesOk_iff]
    intro hs
    have hother (d : ChanNo) (l : LaneNo) (hl : (s.lane l).state.busy = true) (howner : (s.lane l).owner = some d) :
        d ≠ c := fun e => heldLane_none hheld l hl (e ▸ howner)
    constructor
    · intro l
      have hserves := hs.serves l
      unfold State.Serves at *
      rw [lane_modChan]
      split
      · rename_i hbusy
        rw [if_pos hbusy] at hserves
        obtain ⟨d, howner, hstate⟩ := hserves
        exact ⟨d, howner, by rwa [chan_modChan_ne _ _ (hother d l hbusy howner)]⟩
      · rwa [if_neg ‹_›] at hserves
    · exact hs.unique
    · exact hs.low
    · intro hp d hrun
      by_cases hd : d = c
      · subst hd
        simp [Channel.afterReset] at hrun
      · rw [chan_modChan_ne _ _ hd] at hrun
        exact hs.holds hp d hrun
  · simp only [waitsOk_iff]
    exact fun _ => hchan (by simp [Channel.WaitOk, Channel.afterReset])
  · simp only [lapOk_iff]
    exact fun _ => hchan (by simp [Channel.LapOk, Channel.afterReset])

/-! ## The power state (R178, R181 to R183) -/

/-- A change of the power state, the reset pin and the doze bits, with nothing else that Safety speaks of. -/
theorem keeps_of_power {s t : State} (hchan : t.channels = s.channels) (hlane : t.lanes = s.lanes)
    (hcache : t.cache = s.cache) (hlog : t.refusalLog = s.refusalLog) (hdoze : dozeOk s = true → dozeOk t = true)
    (hlow : s.LanesOk → t.resetN = false → t.power = .run)
    (hheld : s.LanesOk → t.power ≠ .resetting → s.power ≠ .resetting) : s.Keeps t := by
  have hsame : s.Local { t with power := s.power, resetN := s.resetN, dozeReq := s.dozeReq } :=
    State.Local.of_eq hchan hlane (List.Perm.of_eq hcache) (by simp [hlog])
  have h := hsame.keeps
  refine ⟨h.log, hdoze, h.flags, h.coalescing, h.transactions, h.cache, h.digests, ?_, ?_, ?_⟩
  · simp only [lanesOk_iff]
    intro hs
    have hl := hsame.lanesOk hs
    exact ⟨hl.serves, hl.unique, hlow hs, fun hp => hl.holds (hheld hs hp)⟩
  · simp only [waitsOk_iff]
    exact fun _ hs c => (hsame.chan c).wait (hs c)
  · simp only [lapOk_iff]
    exact fun _ hs c => (hsame.chan c).lap (hs c)

theorem resetHigh_keeps (s : State) : s.Keeps s.resetHigh := by
  unfold State.resetHigh
  split
  · exact s.keeps_refl
  · rename_i hlow
    simp only [Bool.not_eq_true] at hlow
    refine keeps_of_power rfl rfl rfl rfl ?_ (fun _ _ => rfl) fun hs _ => ?_
    · simp only [dozeOk, hlow, Bool.and_eq_true, Bool.false_or, Bool.not_eq_true']
      exact fun h => by simp [h.2]
    · simp [hs.low hlow]

theorem startSoftReset_keeps {s : State} (ho : s.operating = true) : s.Keeps s.startSoftReset := by
  have hlatched : s.Local (allLanes.foldl State.latchLane s) := State.Local.foldl State.Local.latchLane _ s
  simp only [State.operating, Bool.and_eq_true] at ho
  have hcontrol := hlatched.control
  simp only [Prod.mk.injEq] at hcontrol
  obtain ⟨-, -, -, hreset⟩ := hcontrol
  refine hlatched.keeps.trans ?_
  unfold State.startSoftReset
  refine keeps_of_power rfl rfl rfl rfl (fun _ => ?_) (fun _ => ?_) fun _ h => absurd rfl h
  · simp [dozeOk]
  · simp [hreset, ho.1]

/-- A wake outside reset: the power state RUN, DOZE_REQ 0. -/
theorem wakeUp_keeps {s : State} (hp : s.power ≠ .resetting) : s.Keeps s.wakeUp := by
  rw [wakeUp_eq]
  refine State.Keeps.trans ?_ (State.Local.callFor _ _).keeps
  refine keeps_of_power rfl rfl rfl rfl (fun _ => ?_) (fun _ _ => rfl) fun _ _ => hp
  simp [dozeOk]

theorem enterDoze_keeps (s : State) : s.Keeps s.enterDoze := by
  unfold State.enterDoze
  split
  · rename_i hdue
    simp only [State.dozeDue, Bool.and_eq_true, beq_iff_eq] at hdue
    obtain ⟨⟨hreset, hentry⟩, -⟩ := hdue
    refine State.Keeps.trans ?_ (State.Local.raiseGlobal _ _).keeps
    refine keeps_of_power rfl rfl rfl rfl (fun h => ?_) (fun _ => by simp [hreset]) fun _ _ => by simp [hentry]
    simpa [dozeOk, hreset, hentry] using h
  · exact s.keeps_refl

theorem wakeAfterWait_keeps (s : State) : s.Keeps s.wakeAfterWait := by
  unfold State.wakeAfterWait
  split
  · rename_i howed
    simp only [State.wakeOwed, Bool.and_eq_true, beq_iff_eq] at howed
    exact wakeUp_keeps (by simp [howed])
  · exact s.keeps_refl

theorem writeDoze_keeps {s : State} (ho : s.operating = true) (dozeReq autoWake : Bool) :
    s.Keeps (s.writeDoze dozeReq autoWake) := by
  simp only [State.operating, Bool.and_eq_true, bne_iff_ne] at ho
  obtain ⟨hreset, hp⟩ := ho
  unfold State.writeDoze State.actOnDozeReq
  dsimp only
  split
  · rename_i hset
    split
    · refine keeps_of_power rfl rfl rfl rfl (fun _ => ?_) (fun _ => by simp [hreset]) fun _ _ => hp
      simp [dozeOk, hset, hreset]
    · rename_i hrun
      refine keeps_of_power rfl rfl rfl rfl (fun _ => ?_) (fun _ => by simp [hreset]) fun _ _ => hp
      cases h : s.power <;> simp_all [dozeOk]
  · rename_i hclear
    simp only [Bool.not_eq_true] at hclear
    have hstored (g : BitVec 4) :
        s.Keeps { s with dozeReq := false, autoWake := autoWake, power := .run, glbPending := g } := by
      refine keeps_of_power rfl rfl rfl rfl (fun _ => ?_) (fun _ => by simp [hreset]) fun _ _ => hp
      simp [dozeOk]
    subst hclear
    split
    · exact (hstored s.glbPending).trans (State.Local.callFor _ _).keeps
    · split
      · rw [wakeUp_eq]
        exact (hstored _).trans (State.Local.callFor _ _).keeps
      · rename_i hentry hdoze
        refine keeps_of_power rfl rfl rfl rfl (fun _ => ?_) (fun _ => by simp [hreset]) fun _ _ => hp
        cases h : s.power <;> simp_all [dozeOk]

/-! ## Channel commands (sections 2.3 and 2.4, chapter 9) -/

/-- What every accepted effect keeps, the command keeps with its checks. -/
theorem runCommand_keeps {s : State} {c : ChanNo} {effect : Option State} (h : ∀ t, effect = some t → s.Keeps t) :
    s.Keeps (s.runCommand c effect) :=
  runCommand_induct (P := s.Keeps) (fun _ _ ht => ht.trans (keeps_of_vitals rfl rfl))
    s.keeps_refl h

theorem pause_keeps {s t : State} {c : ChanNo} (h : s.pause c = some t) : s.Keeps t := by
  unfold State.pause at h
  split at h <;> cases h
  case h_1 | h_2 | h_3 | h_4 =>
    rename_i hstate
    exact (State.Local.stopChannel (by simp [ChState.Apart, hstate])).keeps
  case h_9 => exact s.keeps_refl
  all_goals
    rename_i hstate
    refine (State.Local.modChan ⟨?_, id, id, id, Iff.rfl, id⟩ id).keeps
    simp [Channel.FlagsOk, hstate, pauseAllowed]

theorem continueRun_keeps {s t : State} {c : ChanNo} (h : s.continueRun c = some t) : s.Keeps t := by
  unfold State.continueRun at h
  split at h
  · rename_i hstate
    cases h
    refine (State.Local.modChan (keeps_of_apart (by simp [ChState.Apart, hstate]) ?_ ?_ ?_ rfl rfl) id).keeps
    · simp
    · simp [Channel.FlagsOk, hstate, pauseAllowed, abortAllowed]
    · simp [Channel.WaitOk, hstate]
  · split at h <;> cases h
    refine (State.Local.modChan ⟨?_, id, id, id, Iff.rfl, id⟩ id).keeps
    exact fun hs => ⟨by simp, hs.2⟩

theorem faulted_of_dataFaulted {x : Channel} (h : x.dataFaulted = true) : x.state = .faulted := by
  simp only [Channel.dataFaulted, Bool.and_eq_true, beq_iff_eq] at h
  exact h.1

theorem faulted_of_ringFaulted {x : Channel} (h : x.ringFaulted = true) : x.state = .faulted := by
  simp only [Channel.ringFaulted, Bool.and_eq_true, beq_iff_eq] at h
  exact h.1

theorem resumeFault_keeps {s t : State} {c : ChanNo} (h : s.resumeFault c = some t) : s.Keeps t := by
  unfold State.resumeFault at h
  split at h
  · have hstate := faulted_of_dataFaulted ‹_›
    have hqueued : s.Local (s.modChan c fun ch => { ch with state := .queued }) := by
      refine State.Local.modChan (keeps_of_apart (by simp [ChState.Apart, hstate]) ?_ ?_ ?_ rfl rfl) id
      · simp
      · simp [Channel.FlagsOk, hstate, pauseAllowed, abortAllowed]
      · simp [Channel.WaitOk, hstate]
    dsimp only at h
    split at h <;> cases h
    · exact (hqueued.trans (State.Local.callFor _ _)).keeps
    · exact hqueued.keeps
  · split at h
    · have hstate := faulted_of_ringFaulted ‹_›
      have hapart : (s.chan c).state.Apart := by simp [ChState.Apart, hstate]
      split at h <;> cases h
      · exact (State.Local.stopChannel hapart).keeps
      · rename_i hpause
        refine (State.Local.enterFetching hapart (by simp [hstate]) fun hs => ⟨by simpa using hpause, ?_⟩).keeps
        simpa [hstate, abortAllowed] using hs.2
    · cases h

theorem failOrder_keeps {s t : State} {c : ChanNo} (h : s.failOrder c = some t) : s.Keeps t := by
  unfold State.failOrder at h
  split at h <;> cases h
  have hstate := faulted_of_dataFaulted ‹_›
  refine ((State.Local.modChan_vitals rfl rfl).trans (State.Local.enterCompleting ?_ _ _)).keeps
  rw [chan_modChan_same]
  simp [ChState.Apart, hstate]

theorem latchHeld_local (s : State) (c : ChanNo) : s.Local (s.latchHeld c) := by
  unfold State.latchHeld
  split
  · exact State.Local.latchLane s _
  · exact State.Local.refl s

/-- The entry to COMPLETING of an aborted order, its flag raised and perhaps its record marked (R35, R158). -/
theorem abortCompleting_keeps {s : State} {c : ChanNo} (h : (s.chan c).state.Apart) (after : Channel → Bool)
    (status : Status) (result : BitVec 32) :
    s.Keeps ((s.modChan c fun ch => { ch.toAbort with afterFault := after ch }).enterCompleting c status result) := by
  refine State.Keeps.trans ?_ (State.Local.enterCompleting_after _ c status result).keeps
  rw [modChan_modChan]
  refine (State.Local.modChan (keeps_of_apart h ?_ (fun _ => toCompleting_flags status result) ?_ rfl rfl) id).keeps
  · simp [Channel.toCompleting]
  · simp [Channel.toCompleting, Channel.WaitOk]

theorem abortOrder_keeps {s t : State} {c : ChanNo} (h : s.abortOrder c = some t) : s.Keeps t := by
  have habort (hstate : abortAllowed (s.chan c).state = true) : s.Local (s.modChan c Channel.toAbort) :=
    State.Local.modChan ⟨fun hs => ⟨hs.1, fun _ => hstate⟩, id, id, id, Iff.rfl, id⟩ id
  unfold State.abortOrder at h
  split at h
  case h_1 | h_2 | h_3 =>
    rename_i hstate
    cases h
    exact (State.Local.stopChannel (by simp [ChState.Apart, hstate])).keeps
  case h_4 | h_5 =>
    rename_i hstate
    cases h
    exact abortCompleting_keeps (by simp [ChState.Apart, hstate]) Channel.afterFault _ _
  case h_6 =>
    rename_i hstate
    have hapart : (s.chan c).state.Apart := by simp [ChState.Apart, hstate]
    split at h <;> cases h
    · exact (State.Local.stopChannel hapart).keeps
    · exact abortCompleting_keeps hapart (fun _ => true) _ _
  case h_7 =>
    rename_i hstate
    split at h <;> cases h
    · exact s.keeps_refl
    · exact ((habort (by simp [hstate, abortAllowed])).trans (latchHeld_local _ c)).keeps
  case h_8 =>
    rename_i hstate
    cases h
    exact (habort (by simp [hstate, abortAllowed])).keeps
  case h_9 =>
    cases h
    exact s.keeps_refl
  all_goals cases h

theorem flush_keeps {s t : State} {c : ChanNo} (h : s.flush c = some t) : s.Keeps t := by
  unfold State.flush at h
  split at h <;> cases h
  exact keeps_of_vitals rfl rfl

theorem disable_keeps {s t : State} {c : ChanNo} (h : s.disable c = some t) : s.Keeps t := by
  unfold State.disable at h
  split at h <;> cases h
  rename_i hstate
  have hapart : (s.chan c).state.Apart := by obtain e | e := hstate <;> simp [ChState.Apart, e]
  refine (State.Local.modChan (keeps_of_apart hapart ?_ ?_ ?_ rfl rfl) id).keeps
  · simp
  · obtain e | e := hstate <;> simp [Channel.FlagsOk, e, pauseAllowed, abortAllowed]
  · obtain e | e := hstate <;> simp [Channel.WaitOk, e]

/-- ENABLE sets LAP with CQ_TAIL at 0; the configuration check bounds the ring's size (R29, R30). -/
theorem enable_keeps {s t : State} {c : ChanNo} (hconfig : (s.chan c).state = .disabled → s.configOk c = true)
    (h : s.enable c = some t) : s.Keeps t := by
  unfold State.enable at h
  split at h <;> cases h
  rename_i hstate
  have hsize := hconfig hstate
  simp only [State.configOk, ringSizeOk, Bool.and_eq_true, decide_eq_true_iff] at hsize
  obtain ⟨⟨⟨⟨⟨-, hcq⟩, -⟩, -⟩, -⟩, -⟩ := hsize
  refine (State.Local.modChan ⟨?_, id, ?_, fun _ _ _ => ⟨hcq, ?_⟩, ?_, ?_⟩ fun _ => rfl).keeps
  · simp [Channel.FlagsOk, Channel.enabled, hstate, pauseAllowed, abortAllowed]
  · simp [Channel.WaitOk, Channel.enabled, hstate]
  · simp [Channel.enabled]
  · simp [Channel.enabled, hstate]
  · simp [hstate]

/-- The lane a channel holds drains once it is latched. -/
theorem draining_of_latchHeld {s : State} {c : ChanNo} {l : LaneNo} (hbusy : (s.lane l).state.busy = true)
    (howner : (s.lane l).owner = some c)
    (hunique : ∀ m, (s.lane m).state.busy = true → (s.lane m).owner = some c → m = l) :
    ((s.latchHeld c).lane l).state = .draining := by
  unfold State.latchHeld
  split
  · rename_i m hm
    obtain ⟨hbusym, hownerm⟩ := heldLane_some hm
    obtain rfl := hunique m hbusym hownerm
    by_cases hdrain : (s.lane m).state = .draining
    · rwa [latchLane_idle (.inr hdrain)]
    · obtain ⟨q, w, x, h, hx, -⟩ := latchLane_frame hbusym hdrain
      rw [h]
      exact (congrArg Lane.state (lane_setLane_same s m x)).trans hx
  · exact absurd howner (heldLane_none ‹_› l hbusy)

theorem latchLane_channels (s : State) (l : LaneNo) : (s.latchLane l).channels = s.channels := by
  by_cases h : (s.lane l).state.busy = true ∧ (s.lane l).state ≠ .draining
  · obtain ⟨_, _, _, e, -⟩ := latchLane_frame h.1 h.2
    rw [e]
    rfl
  · rw [latchLane_idle (by simpa [Classical.or_iff_not_imp_left] using h)]

theorem latchHeld_channels (s : State) (c : ChanNo) : (s.latchHeld c).channels = s.channels := by
  unfold State.latchHeld
  split
  · exact latchLane_channels s _
  · rfl

theorem latchHeld_chan (s : State) (c d : ChanNo) : (s.latchHeld c).chan d = s.chan d := by
  simp only [State.chan, latchHeld_channels]

/-- A channel reset starts: lanes and channels agree once the lane held drains. -/
theorem startReset_lanesOk {s : State} {c : ChanNo} (hs : s.LanesOk) :
    ((s.modChan c Channel.startClearing).latchHeld c).LanesOk := by
  have hlatch := latchHeld_local (s.modChan c Channel.startClearing) c
  have hcontrol := hlatch.control
  simp only [Prod.mk.injEq, modChan_power, modChan_resetN] at hcontrol
  obtain ⟨-, hpower, -, hreset⟩ := hcontrol
  have hbusy (l : LaneNo) := (hlatch.lane l).busy
  have howner (l : LaneNo) := (hlatch.lane l).owner
  simp only [lane_modChan] at hbusy howner
  have hclearing : ((s.modChan c Channel.startClearing).chan c).state = .clearing := by
    rw [chan_modChan_same]
    rfl
  constructor
  · intro l
    have hserves := hs.serves l
    unfold State.Serves at *
    rw [hbusy, howner]
    split
    · rename_i hl
      rw [if_pos hl] at hserves
      obtain ⟨d, hd, hstate⟩ := hserves
      refine ⟨d, hd, ?_⟩
      rw [latchHeld_chan]
      by_cases hdc : d = c
      · subst hdc
        refine .inr ⟨hclearing, draining_of_latchHeld (by simpa using hl) (by simpa using hd) fun m hm hownerm => ?_⟩
        exact hs.unique m l hm (hownerm.trans hd.symm)
      · rw [chan_modChan_ne _ _ hdc]
        exact hstate.imp_right fun h => ⟨h.1, (hlatch.lane l).draining h.2⟩
    · rwa [if_neg ‹_›] at hserves
  · intro l m
    rw [hbusy, howner, howner]
    exact hs.unique l m
  · rw [hpower, hreset]
    exact hs.low
  · intro hp d hrun
    rw [latchHeld_chan] at hrun
    have hdc : d ≠ c := by
      rintro rfl
      exact absurd (hclearing.symm.trans hrun) (by simp)
    rw [chan_modChan_ne _ _ hdc] at hrun
    obtain ⟨l, hl, hd⟩ := hs.holds (hpower ▸ hp) d hrun
    exact ⟨l, (hbusy l).trans hl, (howner l).trans hd⟩

/-- RESET: the channel is CLEARING and the lane it held drains (R36). -/
theorem startReset_keeps {s t : State} {c : ChanNo} (h : s.startReset c = some t) : s.Keeps t := by
  unfold State.startReset at h
  split at h <;> cases h
  have hlatch := (latchHeld_local (s.modChan c Channel.startClearing) c).keeps
  have hchan {P : Channel → Prop} (hP : P (s.chan c) → P (s.chan c).startClearing) (hs : ∀ d, P (s.chan d))
      (d : ChanNo) : P (((s.modChan c Channel.startClearing).latchHeld c).chan d) := by
    rw [latchHeld_chan]
    by_cases hd : d = c
    · subst hd
      rw [chan_modChan_same]
      exact hP (hs d)
    · rw [chan_modChan_ne _ _ hd]
      exact hs d
  refine ⟨hlatch.log, hlatch.doze, ?_, ?_, hlatch.transactions, hlatch.cache, ?_, ?_, ?_, ?_⟩
  · simp only [pendingFlagsOk_iff]
    exact hchan (by simp [Channel.FlagsOk, Channel.startClearing])
  · simp only [coalescingOk_iff]
    exact hchan id
  · intro hs
    refine hlatch.digests ?_
    rw [digestsOk_iff] at *
    refine ⟨fun d => ?_, hs.2⟩
    by_cases hd : d = c
    · subst hd
      rw [chan_modChan_same]
      exact hs.1 d
    · rw [chan_modChan_ne _ _ hd]
      exact hs.1 d
  · simp only [lanesOk_iff]
    exact startReset_lanesOk
  · simp only [waitsOk_iff]
    exact fun _ => hchan (by simp [Channel.WaitOk, Channel.startClearing])
  · simp only [lapOk_iff]
    exact fun _ => hchan (by simp [Channel.LapOk, Channel.startClearing])

theorem runEnable_keeps (s : State) (c : ChanNo) : s.Keeps (s.runEnable c) := by
  unfold State.runEnable
  split
  · exact keeps_of_vitals rfl rfl
  · rename_i hcheck
    exact runCommand_keeps fun t => enable_keeps fun hstate => by simpa [hstate] using hcheck

theorem commandWrite_keeps (s : State) (p : CmdPort) (c : ChanNo) (code : BitVec 8) :
    s.Keeps (s.commandWrite p c code) := by
  unfold State.commandWrite
  split
  · exact keeps_of_vitals rfl rfl
  · split
    · exact runCommand_keeps fun _ => pause_keeps
    · exact runCommand_keeps fun _ => continueRun_keeps
    · exact runCommand_keeps fun _ => resumeFault_keeps
    · exact runCommand_keeps fun _ => failOrder_keeps
    · exact runCommand_keeps fun _ => abortOrder_keeps
    · exact runCommand_keeps fun _ => flush_keeps
    · exact runEnable_keeps s c
    · exact runCommand_keeps fun _ => disable_keeps
    · exact runCommand_keeps fun _ => startReset_keeps

/-! ## Register writes (chapter 1) -/

theorem local_setEnabled (bits : BitVec 4) (s : State) :
    s.Local (allLanes.foldl (fun s l => s.modLane l fun x => x.setEnabled (bits.getLsbD l.val)) s) := by
  refine State.Local.foldl (fun s l => State.Local.modLane ?_ fun hs => ?_) _ s
  · unfold Lane.setEnabled
    split
    · rename_i h
      exact ⟨id, by simp [h.1, LaneState.busy], rfl, by simp [h.1]⟩
    · split
      · rename_i h
        exact ⟨id, by simp [h.1, LaneState.busy], rfl, by simp [h.1]⟩
      · exact Lane.keeps_refl _
  · have hp : ∀ b, ((s.lane l).setEnabled b).progress = (s.lane l).progress := by
      intro b
      unfold Lane.setEnabled
      repeat' split
      all_goals rfl
    rw [hp]
    exact lane_of_digestsOk hs l

theorem writeLaneEnable_keeps (s : State) (bits : BitVec 4) : s.Keeps (s.writeLaneEnable bits) := by
  have hstored : s.Local { s with laneEnable := bits } := State.Local.of_eq rfl rfl (List.Perm.refl _) rfl
  have hlanes := hstored.trans (local_setEnabled bits _)
  unfold State.writeLaneEnable
  dsimp only
  split
  · exact (hlanes.trans (State.Local.callFor _ _)).keeps
  · exact hlanes.keeps

theorem writeInvalCtl_keeps (s : State) (scope : BitVec 2) (sid : SpaceNo) (go : Bool) :
    s.Keeps (s.writeInvalCtl scope sid go) := by
  have hstored : s.Local { s with inval := { s.inval with scope := scope, sid := sid } } :=
    State.Local.of_eq rfl rfl (List.Perm.refl _) rfl
  unfold State.writeInvalCtl
  dsimp only
  split
  · exact (hstored.trans (State.Local.startInvalidation _)).keeps
  · exact hstored.keeps

theorem writeDoorbell_keeps (s : State) (c : ChanNo) (v : BitVec 16) : s.Keeps (s.writeDoorbell c v) := by
  have hstored : s.Local (s.modChan c fun ch => { ch with sqTail := v }) := State.Local.modChan_vitals rfl rfl
  unfold State.writeDoorbell
  dsimp only
  split
  · split
    · rename_i hdoze
      exact hstored.keeps.trans (wakeUp_keeps (by rw [hdoze.1]; simp))
    · exact hstored.keeps
  · exact (State.Local.raise _ _ _).keeps

theorem writeCqHead_keeps (s : State) (c : ChanNo) (v : BitVec 16) : s.Keeps (s.writeCqHead c v) := by
  unfold State.writeCqHead
  split
  · exact keeps_of_vitals rfl rfl
  · exact (State.Local.raise _ _ _).keeps

/-- A change of the refusal log. -/
theorem keeps_of_log {s t : State} {g : RefusalLog} (h : s.Local t)
    (hlog : refusalLogOk s = true → refusalLogOk { t with refusalLog := g } = true) :
    s.Keeps { t with refusalLog := g } := by
  have h := h.keeps
  exact ⟨hlog, h.doze, h.flags, h.coalescing, h.transactions, h.cache, h.digests, h.lanes, h.waits, h.lap⟩

theorem satInc_bne_zero (x : BitVec 8) : (satInc x != 0) = true := by
  revert x
  decide

theorem refuse_keeps {s : State} (reason : BitVec 3) (off : BitVec 16) : s.Keeps (s.refuse reason off) := by
  refine State.Keeps.trans ?_ (State.Local.raiseGlobal _ _).keeps
  refine keeps_of_log (State.Local.refl s) fun h => ?_
  unfold RefusalLog.record
  split
  · rename_i hvalid
    simp only [refusalLogOk, hvalid, satInc_bne_zero, beq_self_eq_true]
  · simp only [refusalLogOk, satInc_bne_zero, beq_self_eq_true]

theorem clearLog_keeps (s : State) (data : BitVec 32) : s.Keeps (s.clearLog data) := by
  unfold State.clearLog
  split
  · exact keeps_of_log (State.Local.refl s) fun _ => rfl
  · exact s.keeps_refl

/-- A write of the configuration that leaves CQ_SIZE alone. -/
theorem modConfig_keeps {s : State} {c : ChanNo} {f : ChannelConfig → ChannelConfig}
    (h : (f (s.chan c).cfg).cqSize = (s.chan c).cfg.cqSize) : s.Keeps (s.modConfig c f) :=
  keeps_of_vitals (by simp [Channel.vitals, h]) rfl

theorem clearPending_keeps (s : State) (set : EventSet) (data : BitVec 32) : s.Keeps (s.clearPending set data) := by
  cases set with
  | channel c =>
    unfold State.clearPending
    exact keeps_of_vitals rfl rfl
  | global => exact keeps_of_eq rfl rfl rfl rfl

theorem commit64_keeps (s : State) (r : Reg64) (data : BitVec 32) : s.Keeps (s.commit64 r data) := by
  cases r with
  | invalAddr | spaceRoot x => exact keeps_of_eq rfl rfl rfl rfl
  | sqBase c | cqBase c =>
    unfold State.commit64
    exact modConfig_keeps rfl

/-- R10: the configuration of a channel is written in DISABLED only. -/
theorem disabled_of_refusal {s : State} {r : Reg} {c : ChanNo} {data : BitVec 32} (h : s.refusal r data = none)
    (hr : protectingChannel r = some c) : (s.chan c).state = .disabled := by
  unfold State.refusal at h
  split at h
  · cases h
  · rename_i hany
    simpa [hr] using hany

theorem storeRegister_keeps {s : State} {r : Reg} {data : BitVec 32} (ho : s.operating = true)
    (hr : s.refusal r data = none) : s.Keeps (s.storeRegister r data) := by
  cases r with
  | engCtl =>
    simp only [State.storeRegister, State.writeEngCtl]
    split
    · exact startSoftReset_keeps ho
    · exact writeDoze_keeps ho _ _
  | laneEnable => exact writeLaneEnable_keeps s _
  | invalCtl => exact writeInvalCtl_keeps s _ _ _
  | glbEvtPending => exact clearPending_keeps s .global data
  | refusalLog => exact clearLog_keeps s data
  | high r => exact commit64_keeps s r data
  | cqSize c =>
    have hdisabled := disabled_of_refusal hr rfl
    unfold State.storeRegister State.modConfig
    refine State.Local.keeps (State.Local.modChan ?_ ?_)
    · exact ⟨id, id, id, fun _ h => absurd hdisabled h, Iff.rfl, id⟩
    · exact id
  | sqSize c | bind c | waitMask c | evtRoute c | coalesce c =>
    unfold State.storeRegister
    exact modConfig_keeps rfl
  | evtMask c =>
    unfold State.storeRegister
    exact keeps_of_vitals rfl rfl
  | command p c => exact commandWrite_keeps s p c _
  | markSet c => exact (State.Local.setMark s c data).keeps
  | sqTail c => exact writeDoorbell_keeps s c _
  | cqHead c => exact writeCqHead_keeps s c _
  | evtPending c => exact clearPending_keeps s (.channel c) data
  | tickDiv | busTimeout | agingLimit | glbEvtMask | glbEvtRoute | spaceCfg x | low r =>
    exact keeps_of_eq rfl rfl rfl rfl
  | _ => exact s.keeps_refl

/-! ## Every command -/

theorem take_keeps (s : State) (d : Due) : s.Keeps (s.take d) := by
  cases d with
  | ringRead c => exact (State.Local.ringReadIssue s c).keeps
  | record c => exact (State.Local.recordIssue s c).keeps
  | takeover l => exact takeoverStep_keeps s l
  | beat l => exact beatStep_keeps s l
  | orderEnd l => exact orderEndStep_keeps s l
  | handover l => exact handoverStep_keeps s l
  | drainEnd l => exact drainEndStep_keeps s l
  | channelResetEnd c => exact channelResetEnd_keeps s c
  | invalDone =>
    simp only [State.take, State.invalDoneStep]
    split
    · refine State.Keeps.trans ?_ (State.Local.raiseGlobal _ _).keeps
      exact keeps_of_eq rfl rfl rfl rfl
    · exact s.keeps_refl
  | softResetEnd => exact softResetEnd_keeps s
  | dozeEntered => exact enterDoze_keeps s
  | busTimeout t => exact (State.Local.expireTxn s t).keeps
  | waitTimeout c => exact (State.Local.expireWait s c).keeps
  | timer c => exact (State.Local.expireTimer s c).keeps
  | waitSatisfied c => exact (State.Local.takeWait s c).keeps
  | wake => exact wakeAfterWait_keeps s
  | fetch c => exact (State.Local.fetchStart s c).keeps
  | grant => exact grantStep_keeps s
  | walk =>
    simp only [State.take, State.walkStep]
    repeat' split
    · exact (State.Local.startWalk s _ _).keeps
    · exact s.keeps_refl
    · exact s.keeps_refl

theorem keptByEffects_keeps (s : State) : KeptByEffects s.Keeps where
  agenda _ ht := ht.trans (keeps_of_eq rfl rfl rfl rfl)
  take _ d ht := ht.trans (take_keeps _ d)
  resetLow t ht := ht.trans (resetLow_keeps t)
  resetHigh t ht := ht.trans (resetHigh_keeps t)
  respond _ _ ht := ht.trans (keeps_of_eq rfl rfl rfl rfl)
  refuse _ reason off _ ht := ht.trans (refuse_keeps reason off)
  store _ _ _ ho hr ht := ht.trans (storeRegister_keeps ho hr)
  tick t ht := ht.trans (State.Local.tickBoundary t).keeps
  pointerRead t l k data ht := ht.trans (State.Local.pointerReadResponse t l k data).keeps
  laneRead t l k data ht := ht.trans (State.Local.laneReadResponse t l k data).keeps
  laneWrite t l k ok ht := ht.trans (State.Local.laneWriteResponse t l k ok).keeps
  ringRead t c k data ht := ht.trans (State.Local.ringReadResponse t c k data).keeps
  recordWrite t c k ok ht := ht.trans (State.Local.completionWriteResponse t c k ok).keeps
  tableRead t data ht := ht.trans (State.Local.tableReadResponse t data).keeps
  exchange t r ht := ht.trans (State.Local.exchangeResponse t r).keeps

/-- Every command keeps every condition of Safety. -/
theorem exec_keeps {i : Instr} {s t : State} (h : exec i s = .next t) : s.Keeps t :=
  (keptByEffects_keeps s).exec s.keeps_refl h

end Sys2Proof.Machine
end

section
/-! PROOFS. What every command keeps: the six conditions of Safety, each a field of `State.Keeps` (chapters 1 to 12). -/

open Sys2Proof Sys2Proof.Machine

namespace Sys2Proof.Proofs

/-- Settles O54: a refusal counts from 1 up and stays at 255, a clearing resets the log whole. -/
theorem everyCommandKeepsTheRefusalLogCondition : Obligations.EveryCommandKeepsTheRefusalLogCondition :=
  fun _ _ _ hs h => (exec_keeps h).log hs

/-- Settles O55: every change of the power state sets DOZE_REQ with it. -/
theorem everyCommandKeepsTheDozeCondition : Obligations.EveryCommandKeepsTheDozeCondition :=
  fun _ _ _ hs h => (exec_keeps h).doze hs

/-- Settles O56: channel by channel, for each way a channel changes state and for each event. -/
theorem everyCommandKeepsThePendingFlagsCondition : Obligations.EveryCommandKeepsThePendingFlagsCondition :=
  fun _ _ _ h => ⟨(exec_keeps h).flags, (exec_keeps h).coalescing⟩

/-- Settles O57: LAP toggles exactly where CQ_TAIL reaches a multiple of Nc. -/
theorem everyCommandKeepsTheLapRelation : Obligations.EveryCommandKeepsTheLapRelation :=
  fun _ _ _ hl hs h => (exec_keeps h).lap hl hs

/-- Settles O58: lanes and channels change together only at a grant, a release, a channel reset and the resets; all
other steps act on them one by one. -/
theorem everyCommandKeepsLanesAndChannelsTogether : Obligations.EveryCommandKeepsLanesAndChannelsTogether :=
  fun _ _ _ h => ⟨(exec_keeps h).lanes, (exec_keeps h).waits, (exec_keeps h).transactions, (exec_keeps h).digests⟩

/-- Settles O59: lookups reorder the cache, invalidations thin it out, and an insertion drops what it overlaps. -/
theorem everyCommandKeepsTheCacheFreeOfOverlaps : Obligations.EveryCommandKeepsTheCacheFreeOfOverlaps :=
  fun _ _ _ hs h => (exec_keeps h).cache hs

/-- Settles O60. -/
theorem resetStateIsSafe : Obligations.ResetStateIsSafe := safe_reset

end Sys2Proof.Proofs
end

section
/-! SUPPORT. The resets and what accesses find in reset (chapter 12, section 1.5); refused accesses in full; the engine's
own steps at their moment. -/

open Sys2Proof.Certificates

namespace Sys2Proof.Machine

/-! ## In reset and outside it -/

theorem operating_iff (s : State) : s.operating = true ↔ s.resetN = true ∧ s.power ≠ .resetting := by
  simp [State.operating]

theorem resetting_of_not_operating {s : State} (h : s.operating = false) (hreset : s.resetN = true) :
    s.power = .resetting := by
  simpa [State.operating, hreset] using h

/-! ## The soft reset (R178, R179) -/

theorem latchLane_lane_ne (s : State) {l m : LaneNo} (h : m ≠ l) : (s.latchLane l).lane m = s.lane m := by
  by_cases hlatch : (s.lane l).state.busy = true ∧ (s.lane l).state ≠ .draining
  · obtain ⟨_, _, _, e, -⟩ := latchLane_frame hlatch.1 hlatch.2
    rw [e]
    exact lane_setLane_ne s _ h
  · rw [latchLane_idle (by simpa [Classical.or_iff_not_imp_left] using hlatch)]

/-- A lane that a drain is asked of: busy, it drains for its owner with its transactions; not busy, it stays. -/
def Lane.Drained (x y : Lane) : Prop :=
  (x.state.busy = true → y.state = .draining ∧ y.owner = x.owner ∧ y.txns = x.txns) ∧ (x.state.busy = false → y = x)

theorem latchLane_drained (s : State) (l : LaneNo) : (s.lane l).Drained ((s.latchLane l).lane l) := by
  refine ⟨fun hbusy => ?_, fun hidle => by rw [latchLane_idle (.inl hidle)]⟩
  by_cases hdrain : (s.lane l).state = .draining
  · rw [latchLane_idle (.inr hdrain)]
    exact ⟨hdrain, rfl, rfl⟩
  · obtain ⟨q, w, x, h, hstate, howner, htxns, -⟩ := latchLane_frame hbusy hdrain
    have hx : (s.latchLane l).lane l = x := by
      rw [h]
      exact lane_setLane_same s l x
    rw [hx]
    exact ⟨hstate, howner, htxns⟩

/-- A step for each lane of a list that leaves the other lanes alone acts on a lane of the list once. -/
theorem lane_foldl_once {f : State → LaneNo → State} (hne : ∀ s l m, m ≠ l → (f s l).lane m = s.lane m)
    {as : List LaneNo} (hnodup : as.Nodup) {l : LaneNo} (hl : l ∈ as) (s : State) :
    ∃ u : State, u.lane l = s.lane l ∧ (as.foldl f s).lane l = (f u l).lane l := by
  induction as generalizing s with
  | nil => cases hl
  | cons m rest ih =>
    obtain ⟨hm, hrest⟩ := List.nodup_cons.mp hnodup
    by_cases h : l = m
    · subst h
      have hafter (t : State) : (rest.foldl f t).lane l = t.lane l :=
        List.foldlRecOn (motive := fun v : State => v.lane l = t.lane l) rest f rfl
          fun v hv m hmem => (hne v m l (fun e => hm (e ▸ hmem))).trans hv
      exact ⟨s, rfl, hafter _⟩
    · obtain ⟨u, hu, hfold⟩ := ih hrest ((List.mem_cons.mp hl).resolve_left h) (f s m)
      exact ⟨u, hu.trans (hne s m l h), hfold⟩

theorem latchAll_drained (s : State) (l : LaneNo) : (s.lane l).Drained ((allLanes.foldl State.latchLane s).lane l) := by
  obtain ⟨u, hu, h⟩ := lane_foldl_once (fun s l m hm => latchLane_lane_ne s hm) (by decide) (mem_allLanes l) s
  rw [h, ← hu]
  exact latchLane_drained u l

theorem latchLane_eq (s : State) (l : LaneNo) :
    s.latchLane l = { s with lanes := (s.latchLane l).lanes, walkQueue := (s.latchLane l).walkQueue,
                             walker := (s.latchLane l).walker } := by
  by_cases h : (s.lane l).state.busy = true ∧ (s.lane l).state ≠ .draining
  · obtain ⟨_, _, _, e, -⟩ := latchLane_frame h.1 h.2
    rw [e]
    rfl
  · rw [latchLane_idle (by simpa [Classical.or_iff_not_imp_left] using h)]

theorem latchAll_eq (s : State) (as : List LaneNo) :
    as.foldl State.latchLane s =
      { s with lanes := (as.foldl State.latchLane s).lanes, walkQueue := (as.foldl State.latchLane s).walkQueue,
               walker := (as.foldl State.latchLane s).walker } :=
  List.foldlRecOn
    (motive := fun t : State => t = { s with lanes := t.lanes, walkQueue := t.walkQueue, walker := t.walker }) as _ rfl
    fun t ht l _ => by
      rw [latchLane_eq t l, ht]

/-- A soft reset starts: nothing but the power state, the doze bits, the tick, the lanes and the walks changes. -/
theorem startSoftReset_eq (s : State) :
    s.startSoftReset =
      { s with power := .resetting, dozeReq := false, autoWake := false, tick := none
               lanes := s.startSoftReset.lanes, walkQueue := s.startSoftReset.walkQueue
               walker := s.startSoftReset.walker } := by
  unfold State.startSoftReset
  dsimp only
  rw [latchAll_eq s allLanes]

theorem startSoftReset_drained (s : State) (l : LaneNo) : (s.lane l).Drained (s.startSoftReset.lane l) :=
  latchAll_drained s l

theorem irq_of_not_operating {s : State} (h : s.operating = false) (n : BitVec 2) : s.irq n = false := by
  simp [State.irq, h]

/-! ## The end of a soft reset is due when nothing is left (R179) -/

theorem firstDue_eq_none {α : Type} {f : α → Option Due} {as : List α} (h : ∀ a ∈ as, f a = none) :
    firstDue f as = none := by
  induction as with
  | nil => rfl
  | cons a rest ih =>
    rw [firstDue, h a List.mem_cons_self]
    exact ih fun b hb => h b (List.mem_cons_of_mem _ hb)

theorem ending_of_idle {x : Lane} (h : x.state.busy = false) : x.ending = none := by
  unfold Lane.ending
  cases hs : x.state <;> simp_all [LaneState.busy]

theorem issueDue_of_not_operating {s : State} (h : s.operating = false) (c : ChanNo) : s.issueDue c = none := by
  simp [State.issueDue, State.recordDue, State.ringReadDue, h]

/-- No channel, invalidation or transaction has a step in reset: with every lane idle only the end of the soft reset
can be due. -/
theorem nextDue_softResetEnd {s : State} (h : s.softResetDue = true) : s.nextDue = some .softResetEnd := by
  have hdue := h
  simp only [State.softResetDue, Bool.and_eq_true, beq_iff_eq, Bool.not_eq_true'] at hdue
  obtain ⟨⟨⟨⟨-, hpower⟩, hlanes⟩, -⟩, -⟩ := hdue
  have ho : s.operating = false := by simp [State.operating, hpower]
  have hown : s.ownIssueDue = none := by
    unfold State.ownIssueDue
    split
    · exact issueDue_of_not_operating ho _
    · rfl
  have hlane : firstDue s.laneDue allLanes = none := firstDue_eq_none fun l _ => by
    have hidle : (s.lane l).state.busy = false := by
      simpa [State.anyLaneBusy] using (List.any_eq_false.mp hlanes) l (mem_allLanes l)
    simp [State.laneDue, ending_of_idle hidle]
  have hchannel : firstDue (fun c => if s.channelResetDue c then some (.channelResetEnd c) else none) allChannels = none :=
    firstDue_eq_none fun c _ => by simp [State.channelResetDue, ho]
  have hinval : s.invalDue = false := by simp [State.invalDue, ho]
  simp [State.nextDue, State.endDue, hown, hlane, hchannel, hinval, h]

/-! ## The reset state -/

theorem reset_chan (c : ChanNo) : State.reset.chan c = {} := Vector.getElem_replicate _

theorem reset_lane (l : LaneNo) : State.reset.lane l = {} := Vector.getElem_replicate _

theorem reset_space (x : SpaceNo) : State.reset.space x = {} := Vector.getElem_replicate _

theorem reset_irq (n : BitVec 2) : State.reset.irq n = false := by
  have hquiet : ∀ c ∈ allChannels, ¬(((State.reset.chan c).cfg.evtRoute == n && (State.reset.chan c).active) = true) :=
    fun c _ => by simp [reset_chan, Channel.active]
  have hglobal : State.reset.globalActive = false := rfl
  unfold State.irq
  rw [List.any_eq_false.mpr hquiet, hglobal]
  simp

/-! ## Reads in reset (R16) -/

theorem decodeOffset_engStatus {off : BitVec 16} (h : decodeOffset off = some .engStatus) : off = 0x008#16 := by
  have hengine {n : Nat} (h : decodeEngineOffset n = some .engStatus) : n = 8 := by
    unfold decodeEngineOffset at h
    split at h <;> simp_all
  have hspace {x : SpaceNo} {n : Nat} : decodeSpaceOffset x n ≠ some .engStatus := by
    unfold decodeSpaceOffset
    split <;> simp
  have hconfig {c : ChanNo} {n : Nat} : decodeConfigOffset c n ≠ some .engStatus := by
    unfold decodeConfigOffset
    split <;> simp
  have hwindow {c : ChanNo} {n : Nat} : decodeWindowOffset c n ≠ some .engStatus := by
    unfold decodeWindowOffset
    split <;> simp
  unfold decodeOffset at h
  dsimp only at h
  split at h
  · exact BitVec.eq_of_toNat_eq (hengine h)
  · split at h
    · exact absurd h hspace
    · split at h
      · exact absurd h hconfig
      · split at h
        · cases h
        · split at h
          · exact absurd h hwindow
          · cases h

/-- A read of an assigned offset with RESET_N high returns the register's value, in RESETTING for ENG_STATUS only. -/
theorem readNow_of_decode {s : State} {off : BitVec 16} {r : Reg} (hreset : s.resetN = true)
    (hr : decodeOffset off = some r) (hp : s.power ≠ .resetting ∨ r = .engStatus) :
    s.readNow off = s.registerValue r := by
  have hshown : ¬(s.power = .resetting ∧ r ≠ .engStatus) := by tauto
  simp [State.readNow, hreset, hr, hshown]

theorem readNow_of_not_operating {s : State} (h : s.operating = false) {off : BitVec 16}
    (hoff : off ≠ 0x008#16 ∨ s.resetN = false) : s.readNow off = 0#32 := by
  unfold State.readNow
  cases hreset : s.resetN with
  | false => rfl
  | true =>
    have hp := resetting_of_not_operating h hreset
    have hoff := hoff.resolve_right (by simp [hreset])
    simp only [Bool.not_true, Bool.false_eq_true, if_false]
    split
    · rfl
    · rename_i r hr
      rw [if_pos ⟨hp, fun e => hoff (decodeOffset_engStatus (e ▸ hr))⟩]
      rfl

/-- POWER_STATE stands in the low bits of ENG_STATUS. -/
theorem engStatus_power (s : State) : s.engStatus.extractLsb' 0 2 = s.power.code := by
  have hlow (p : BitVec 2) (n : BitVec 3) (a b : BitVec 1) :
      (putBits p 0 ||| putBits n 4 ||| putBits a 8 ||| putBits b 9).extractLsb' 0 2 = p := by
    revert p n a b
    decide
  exact hlow _ _ _ _

/-! ## Refused accesses in full (R13, R14) -/

theorem record_eq_logAfter (g : RefusalLog) (reason : BitVec 3) (off : BitVec 16) :
    g.record reason off = logAfter g reason off := by
  have hcount : satInc g.count = if g.count = 255#8 then 255#8 else g.count + 1#8 := by
    unfold satInc
    split
    · assumption
    · rfl
  unfold RefusalLog.record logAfter
  cases h : g.valid <;> simp [hcount]

theorem refuse_respond {u : State} (h : u.operating = true) (reason : BitVec 3) (off : BitVec 16) (p : PortResponse) :
    (u.refuse reason off).respond p = refusedAccess u reason off p := by
  rw [refuse_eq h, record_eq_logAfter]
  rfl

/-- A write that R10 to R12 refuse, in full. -/
theorem access_refused {u : State} {r : Reg} {data : BitVec 32} {reason : BitVec 3} (ho : u.operating = true)
    (h : u.refusal r data = some reason) :
    (u.access fun v => v.writeRegister r data) = refusedAccess u reason (refusalOffset r) .ok := by
  rw [access_writeRegister_refused ho h, refuse_respond ho]

end Sys2Proof.Machine
end

section
/-! PROOFS. Resets, accesses in reset, refused accesses, and the engine's own steps. -/

open Sys2Proof Sys2Proof.Machine Sys2Proof.Certificates

namespace Sys2Proof.Proofs

/-- Settles O3: each row of the table has a meaning that answers a next state. -/
theorem everyCommandAnswersANextState : Obligations.EveryCommandAnswersANextState := by
  intro i s
  cases i <;> exact ⟨_, rfl⟩

/-- Settles O4: RESET_N low blanks the state the steps due leave, the queue apart, which they leave alone. -/
theorem powerOnResetAndItsRelease : Obligations.PowerOnResetAndItsRelease := by
  refine ⟨fun s => ⟨s.settled.port, ?_⟩, fun s u hu => ?_⟩
  · have hqueue : s.settled.pending = s.pending := (keptByEffects_pending s.pending).settled rfl
    rw [exec_powerOnReset, ← hqueue]
    rfl
  · subst hu
    refine ⟨fun hlow => ?_, fun hhigh => ?_⟩
    · exact congrArg Host.Outcome.next (if_neg (by simp [hlow]))
    · exact congrArg Host.Outcome.next (if_pos hhigh)

/-- Settles O5: each item of the table read off the reset state. -/
theorem resetValuesAreThoseOfTheTable : Obligations.ResetValuesAreThoseOfTheTable := by
  unfold Obligations.ResetValuesAreThoseOfTheTable
  dsimp only
  refine ⟨?_, ?_, ?_, ?_, fun l => ?_, fun x => ?_, fun c => ?_⟩
  · and_intros <;> rfl
  · and_intros <;> rfl
  · and_intros <;> rfl
  · exact ⟨rfl, rfl, reset_irq⟩
  · rw [reset_lane]
    and_intros <;> rfl
  · rw [reset_space]
    and_intros <;> rfl
  · rw [reset_chan]
    and_intros <;> rfl

/-- Settles O6: the latch reaches every busy lane once; with nothing left the end of the reset is the step due. -/
theorem softResetDrainsAndThenResets : Obligations.SoftResetDrainsAndThenResets := by
  refine ⟨fun s u d a hu ho => ?_, fun s hreset hpower hlanes hwalker hrings => ?_⟩
  · subst hu
    have hexec : exec (.softReset d a) s = .next (s.settled.startSoftReset.respond .ok) := by
      change Host.Outcome.next (s.settled.access fun v => v.writeEngCtl true d a) = _
      rw [access_operating ho, State.writeEngCtl, if_pos rfl]
    have hframe := startSoftReset_eq s.settled
    have hdrained := startSoftReset_drained s.settled
    generalize s.settled.startSoftReset = t at hexec hframe hdrained
    have hreset : (t.respond .ok).operating = false := by
      rw [hframe]
      simp [State.operating, State.respond]
    exact ⟨t.respond .ok, hexec, congrArg (fun v => State.respond v .ok) hframe, fun l => (hdrained l).1,
      fun l => (hdrained l).2, irq_of_not_operating hreset⟩
  · have hdue : s.softResetDue = true := by
      simp [State.softResetDue, State.anyLaneBusy, State.anyRingTxn, hreset, hpower, hlanes, hwalker, hrings]
    exact exec_softResetEnd_due (nextDue_softResetEnd hdue)

/-- Settles O7: no access has an effect in reset, and only ENG_STATUS reads as more than 0. -/
theorem accessesInResetChangeNothing : Obligations.AccessesInResetChangeNothing := by
  intro s u hu ho
  subst hu
  refine ⟨fun i hi => ?_, fun w off n hn => ?_, fun off hoff => readNow_of_not_operating ho hoff, fun hreset => ?_⟩
  · have haccess (f : State → State) : s.serialise (fun v => v.access f) = { s.settled with port := some .ok } :=
      access_reset ho f
    cases i with
    | registerWrite off data =>
      refine congrArg Host.Outcome.next ?_
      have halign : off.toNat % 4 = 0 := by simpa [isAccess] using hi
      rw [serialise_eq, State.writeAt, if_neg (by simp [halign])]
      split <;> exact access_reset ho _
    | stageLowHalf | commitHighHalf | refusalLogClear | eventPendingClear | laneEnable | invalGo | softReset
    | dozeReqSet | dozeReqClear | doorbell | cqHeadWrite | markSet | cmdPause | cmdContinue | cmdResume | cmdFail
    | cmdAbort | cmdFlush | cmdEnable | cmdDisable | cmdReset | unknownCommand =>
      exact congrArg Host.Outcome.next (haccess _)
    | _ => cases hi
  · refine congrArg Host.Outcome.next ?_
    have hbreaks : ¬(n = 4 ∧ off.toNat % 4 = 0) := by omega
    rw [serialise_eq, if_neg hbreaks, State.sizeRefused, if_neg (by simp [ho])]
    cases hr : s.settled.resetN <;> simp [State.respond, hr]
  · have hread : s.read 0x008 = s.settled.engStatus := by
      exact readNow_of_decode hreset (by decide) (.inr rfl)
    rw [hread, engStatus_power, resetting_of_not_operating ho hreset]
    rfl

/-- Settles O8: the log and ACCESS_REFUSED by the equation of a refusal. -/
theorem illegalSizeAccessIsLoggedAndChangesNothingElse : Obligations.IllegalSizeAccessIsLoggedAndChangesNothingElse := by
  intro s u w off n hu ho hn
  subst hu
  refine congrArg Host.Outcome.next ?_
  have hbreaks : ¬(n = 4 ∧ off.toNat % 4 = 0) := by omega
  rw [serialise_eq, if_neg hbreaks, State.sizeRefused, if_pos ho]
  exact refuse_respond ho _ _ _

/-- Settles O9: R10 refuses each register of the block of a channel that is not DISABLED, R11 each of a space in use. -/
theorem protectedRegistersRefuseWrites : Obligations.ProtectedRegistersRefuseWrites := by
  intro s u data hu ho
  subst hu
  have hwrite {off : BitVec 16} {r : Reg} {reason : BitVec 3} (halign : off.toNat % 4 = 0)
      (hr : decodeOffset off = some r) (h : s.settled.refusal r data = some reason) :
      exec (.registerWrite off data) s = .next (refusedAccess s.settled reason (refusalOffset r) .ok) :=
    congrArg Host.Outcome.next ((writeAt_of_decode _ halign hr data).trans (access_refused ho h))
  refine ⟨fun c hc => ?_, fun x c hc hx => ?_⟩
  · obtain ⟨hsqHigh, hcqHigh⟩ := refusalOffset_high_base c
    have hrefused {r : Reg} (hr : protectingChannel r = some c) :
        (s.settled.access fun v => v.writeRegister r data) = refusedAccess s.settled 2#3 (refusalOffset r) .ok :=
      access_refused ho (refusal_channelEnabled hr hc data)
    refine ⟨?_, ?_, ?_, ?_, fun o hmem => ?_⟩
    · exact congrArg Host.Outcome.next (hrefused (r := .low (.sqBase c)) rfl)
    · rw [← hsqHigh]
      exact congrArg Host.Outcome.next (hrefused rfl)
    · exact congrArg Host.Outcome.next (hrefused (r := .low (.cqBase c)) rfl)
    · rw [← hcqHigh]
      exact congrArg Host.Outcome.next (hrefused rfl)
    · obtain ⟨r, hr, hprotects, hoff, halign⟩ := decodeOffset_cfgOff c hmem
      rw [hwrite halign hr (refusal_channelEnabled hprotects hc data), hoff]
      rfl
  · subst hx
    refine ⟨?_, ?_, ?_⟩
    · obtain ⟨hr, halign⟩ := decodeOffset_spcOff (s.settled.chan c).cfg.sid
      exact hwrite halign hr (refusal_spaceInUse rfl rfl hc data)
    · exact congrArg Host.Outcome.next
        (access_refused (r := .low (.spaceRoot (s.settled.chan c).cfg.sid)) ho (refusal_spaceInUse rfl rfl hc data))
    · rw [← refusalOffset_high_root]
      exact congrArg Host.Outcome.next (access_refused ho (refusal_spaceInUse rfl rfl hc data))

end Sys2Proof.Proofs
end

section
/-! SUPPORT. The wake (R183), register writes with a row of their own (chapter 1, R112, R141, R181), index writes, and the
engine's own steps at their moment. -/

open Sys2Proof.Certificates

namespace Sys2Proof.Machine

/-! ## The wake and the cancellation (R27, R183) -/

/-- The transitions R27 holds, by channel state. -/
theorem held_eq (ch : Channel) :
    ch.held =
      (let waits := ch.ring.all fun t => !t.live
       (ch.state == .idle && ch.sqHead != ch.sqTail) ||
         (ch.state == .waitingSlot && decide ((ch.cqTail - ch.cqHead).toNat < 2 ^ ch.cfg.cqSize.toNat)) ||
         (ch.state == .fetching && waits) || (ch.state == .completing && waits)) := by
  have hwaits : (!ch.awaiting) = ch.ring.all fun t => !t.live := by
    simp [Channel.awaiting, List.all_eq_not_any_not]
  unfold Channel.held Channel.orderPending Channel.slotFree Channel.occupiedSlots ChannelConfig.cqSlots
  rw [hwaits]
  cases ch.state <;> simp [beq_false_of_ne]

theorem releasedSteps_eq (s : State) : s.releasedSteps = releaseOwed s := by
  unfold State.releasedSteps releaseOwed
  simp only [held_eq]
  rfl

/-- The wake of R183 outside reset, written out. -/
theorem wakeUp_of_resetN {s : State} (h : s.resetN = true) :
    s.wakeUp = { s with power := .run, dozeReq := false, glbPending := s.glbPending ||| 0x8#4
                        agenda := releaseOwed s ++ s.agenda } := by
  rw [wakeUp_eq, if_pos h, releasedSteps_eq]
  rfl

/-! ## Accesses outside reset -/

section
variable {s : State} (ho : s.settled.operating = true)
include ho

theorem exec_stageLowHalf (r : Reg64) (data : BitVec 32) :
    exec (.stageLowHalf r data) s = .next ((s.settled.writeRegister (.low r) data).respond .ok) :=
  congrArg Host.Outcome.next ((serialise_eq s _).trans (access_operating ho _))

theorem exec_commitHighHalf (r : Reg64) (data : BitVec 32) :
    exec (.commitHighHalf r data) s = .next ((s.settled.writeRegister (.high r) data).respond .ok) :=
  congrArg Host.Outcome.next ((serialise_eq s _).trans (access_operating ho _))

theorem exec_eventPendingClear (set : EventSet) (data : BitVec 32) :
    exec (.eventPendingClear set data) s = .next ((s.settled.clearPending set data).respond .ok) :=
  congrArg Host.Outcome.next ((serialise_eq s _).trans (access_operating ho _))

theorem exec_laneEnable (data : BitVec 32) :
    exec (.laneEnable data) s = .next ((s.settled.writeLaneEnable (fld data 0 4)).respond .ok) :=
  congrArg Host.Outcome.next ((serialise_eq s _).trans (access_operating ho _))

theorem exec_dozeReqSet (a : Bool) : exec (.dozeReqSet a) s = .next ((s.settled.writeEngCtl false true a).respond .ok) :=
  congrArg Host.Outcome.next ((serialise_eq s _).trans (access_operating ho _))

theorem exec_dozeReqClear (a : Bool) :
    exec (.dozeReqClear a) s = .next ((s.settled.writeEngCtl false false a).respond .ok) :=
  congrArg Host.Outcome.next ((serialise_eq s _).trans (access_operating ho _))

theorem exec_doorbell (c : ChanNo) (data : BitVec 32) :
    exec (.doorbell c data) s = .next ((s.settled.writeDoorbell c (fld data 0 16)).respond .ok) :=
  congrArg Host.Outcome.next ((serialise_eq s _).trans (access_operating ho _))

theorem exec_cqHeadWrite (c : ChanNo) (data : BitVec 32) :
    exec (.cqHeadWrite c data) s = .next ((s.settled.writeCqHead c (fld data 0 16)).respond .ok) :=
  congrArg Host.Outcome.next ((serialise_eq s _).trans (access_operating ho _))

theorem exec_markSet (c : ChanNo) (data : BitVec 32) :
    exec (.markSet c data) s = .next ((s.settled.setMark c data).respond .ok) :=
  congrArg Host.Outcome.next ((serialise_eq s _).trans (access_operating ho _))

theorem exec_invalGo_free (hfree : s.settled.inval.busy = false) (scope : BitVec 2) (sid : SpaceNo) :
    exec (.invalGo scope sid) s = .next ((s.settled.writeInvalCtl scope sid true).respond .ok) := by
  refine congrArg Host.Outcome.next (((serialise_eq s _).trans (access_operating ho _)).trans ?_)
  rw [if_neg (by simp [hfree])]

theorem exec_invalGo_busy (hbusy : s.settled.inval.busy = true) (scope : BitVec 2) (sid : SpaceNo) :
    exec (.invalGo scope sid) s = .next (refusedAccess s.settled 4#3 0x030#16 .ok) := by
  refine congrArg Host.Outcome.next (((serialise_eq s _).trans (access_operating ho _)).trans ?_)
  rw [if_pos hbusy, refuse_respond ho]
  rfl

end

/-! ## The 64-bit registers (R8, R9) -/

/-- A half of an unprotected 64-bit register passes the checks of R10 to R12. -/
theorem refusal_half {u : State} {q : Reg64} (h : Unprotected u q) {r : Reg} (hr : r = .low q ∨ r = .high q)
    (data : BitVec 32) : u.refusal r data = none := by
  have hinval : (r == Reg.invalCtl) = false := by
    rcases hr with rfl | rfl <;> rfl
  have hchannel : ((protectingChannel r).any fun c => (u.chan c).state != .disabled) = false := by
    cases q <;> rcases hr with rfl | rfl <;> simp_all [protectingChannel, Unprotected]
  have hspace : (protectingSpace r).any u.spaceInUse = false := by
    have hfree {x : SpaceNo} (h : ∀ c, (u.chan c).state ≠ .disabled → (u.chan c).cfg.sid ≠ x) :
        u.spaceInUse x = false := by
      simpa [State.spaceInUse, allChannels_all] using h
    cases q with
    | spaceRoot x => rcases hr with rfl | rfl <;> simpa [protectingSpace] using hfree h
    | invalAddr | sqBase | cqBase => rcases hr with rfl | rfl <;> rfl
  simp [State.refusal, hinval, hchannel, hspace]

theorem writeRegister_half {u : State} {q : Reg64} (h : Unprotected u q) {r : Reg} (hr : r = .low q ∨ r = .high q)
    (data : BitVec 32) : u.writeRegister r data = u.storeRegister r data := by
  simp [State.writeRegister, refusal_half h hr data]

/-! ## Pending bits and the lines (R172, R176) -/

theorem and_ne_zero_iff {w : Nat} (x y : BitVec w) :
    (x &&& y != 0#w) = true ↔ ∃ b < w, x.getLsbD b = true ∧ y.getLsbD b = true := by
  rw [bne_iff_ne, ne_eq, BitVec.eq_of_getLsbD_eq_iff]
  simp

/-! ## LANE_ENABLE (R111, R112) -/

theorem setEnabled_eq (x : Lane) (b : Bool) :
    x.setEnabled b = { x with
      state := if x.state = .free ∧ b = false then .disabled
               else if x.state = .disabled ∧ b = true then .free else x.state } := by
  unfold Lane.setEnabled
  split
  · rfl
  · split <;> rfl

/-- A write to LANE_ENABLE: the register, the lanes, and in RUN a grant decision where a lane becomes FREE. -/
theorem writeLaneEnable_eq (u : State) (bits : BitVec 4) :
    ∃ lanes, u.writeLaneEnable bits =
        { u with
          laneEnable := bits, lanes := lanes
          agenda := if u.power = .run ∧ (∃ l : LaneNo, (u.lane l).state = .disabled ∧ bits.getLsbD l.val = true)
                    then .grants :: u.agenda else u.agenda } ∧
      ∀ l : LaneNo, lanes[l.val] = (u.lane l).setEnabled (bits.getLsbD l.val) := by
  have hlane := lane_foldl_allLanes (fun l x => x.setEnabled (bits.getLsbD l.val)) { u with laneEnable := bits }
  have hframe := foldl_modLane_frame (fun l x => x.setEnabled (bits.getLsbD l.val)) allLanes { u with laneEnable := bits }
  have hfreed : (allLanes.any fun l => (u.lane l).state == .disabled && bits.getLsbD l.val) = true ↔
      ∃ l : LaneNo, (u.lane l).state = .disabled ∧ bits.getLsbD l.val = true := by
    simp
  unfold State.writeLaneEnable
  dsimp only
  generalize allLanes.foldl (fun s l => s.modLane l fun x => x.setEnabled (bits.getLsbD l.val))
    ({ u with laneEnable := bits } : State) = t at hlane hframe ⊢
  have hpower : t.power = u.power := by rw [hframe]
  refine ⟨t.lanes, ?_, hlane⟩
  rw [hpower]
  by_cases h : u.power = .run ∧ ∃ l : LaneNo, (u.lane l).state = .disabled ∧ bits.getLsbD l.val = true
  · rw [if_pos ⟨h.1, hfreed.mpr h.2⟩, if_pos h, hframe]
    rfl
  · rw [if_neg fun hf => h ⟨hf.1, hfreed.mp hf.2⟩, if_neg h, hframe]

/-! ## Invalidation (R141 to R143) -/

theorem modLanes_eq (u : State) (f : Lane → Lane) :
    ∃ lanes, u.modLanes f = { u with lanes := lanes } ∧ ∀ l : LaneNo, lanes[l.val] = f (u.lane l) := by
  have hframe := foldl_modLane_frame (fun _ => f) allLanes u
  have hlane := lane_foldl_allLanes (fun _ => f) u
  unfold State.modLanes
  generalize allLanes.foldl (fun s l => s.modLane l f) u = t at hframe hlane
  exact ⟨t.lanes, hframe, hlane⟩

theorem modChannels_eq (u : State) (f : Channel → Channel) :
    ∃ channels, u.modChannels f = { u with channels := channels } ∧ ∀ c : ChanNo, channels[c.val] = f (u.chan c) := by
  have hframe := foldl_modChan_frame (fun _ => f) allChannels u
  have hchan := chan_foldl_allChannels (fun _ => f) u
  unfold State.modChannels
  generalize allChannels.foldl (fun s c => s.modChan c f) u = t at hframe hchan
  exact ⟨t.channels, hframe, hchan⟩

theorem scope_cases (x : BitVec 2) : x = 0#2 ∨ x = 1#2 ∨ x = 2#2 ∨ x = 3#2 := by
  revert x
  decide

/-- The scopes 1 and 2, and every other acting as ALL, of what an invalidation removes. -/
theorem removes_eq (v : Inval) (e : CacheEntry) :
    v.removes e =
      if v.scope = 1#2 then e.sid == v.sid else if v.scope = 2#2 then e.covers v.sid v.addr else true := by
  unfold Inval.removes
  rcases scope_cases v.scope with h | h | h | h <;> simp [h]

theorem marks_eq (v : Inval) (w : Walk) :
    v.marks w =
      if v.scope = 1#2 then w.sid == v.sid
      else if v.scope = 2#2 then w.sid == v.sid && w.page.extractLsb' 9 19 == v.addr.extractLsb' 21 19
      else true := by
  have hregion : pageRegion (evaPage v.addr) = v.addr.extractLsb' 21 19 := by
    unfold pageRegion evaPage
    ext i hi
    simp [← Nat.add_assoc]
    omega
  unfold Inval.marks
  rw [hregion]
  rcases scope_cases v.scope with h | h | h | h <;> simp [h, pageRegion]

/-- An accepted GO write in full. -/
theorem writeInvalCtl_go (u : State) (scope : BitVec 2) (sid : SpaceNo) :
    ∃ lanes, u.writeInvalCtl scope sid true =
        { u with
          inval := { u.inval with scope := scope, sid := sid, busy := true }
          cache := u.cache.filter fun e =>
            !(if scope = 1#2 then e.sid == sid else if scope = 2#2 then e.covers sid u.inval.addr else true)
          walker := u.walker.map fun w => { w with walk := { w.walk with stale := w.walk.stale ||
            (if scope = 1#2 then w.walk.sid == sid
             else if scope = 2#2 then w.walk.sid == sid && w.walk.page.extractLsb' 9 19 == u.inval.addr.extractLsb' 21 19
             else true) } }
          lanes := lanes } ∧
      ∀ l : LaneNo, lanes[l.val] = (u.lane l).markOld := by
  have hwalker (v : Inval) :
      (fun w : Walker => if v.marks w.walk then { w with walk := { w.walk with stale := true } } else w) =
        fun w => { w with walk := { w.walk with stale := w.walk.stale || v.marks w.walk } } := by
    funext w
    cases h : v.marks w.walk <;> simp
  unfold State.writeInvalCtl State.startInvalidation
  dsimp only
  rw [if_pos rfl, hwalker]
  simp only [removes_eq, marks_eq]
  exact modLanes_eq _ Lane.markOld

/-! ## Index writes (R42, R43, R46) -/

theorem indexClosed_iff (st : ChState) : st.indexClosed = false ↔ st ≠ .disabled ∧ st ≠ .clearing := by
  cases st <;> simp [ChState.indexClosed]

theorem doorbellOk_iff (ch : Channel) (v : BitVec 16) :
    ch.doorbellOk v = true ↔
      ch.state ≠ .disabled ∧ ch.state ≠ .clearing ∧ (v - ch.sqHead).toNat ≤ 2 ^ ch.cfg.sqSize.toNat ∧
        (ch.sqTail - ch.sqHead).toNat ≤ (v - ch.sqHead).toNat := by
  unfold Channel.doorbellOk ChannelConfig.sqSlots
  simp only [Bool.and_eq_true, Bool.not_eq_true', indexClosed_iff, decide_eq_true_eq, and_assoc]

theorem cqHeadOk_iff (ch : Channel) (v : BitVec 16) :
    ch.cqHeadOk v = true ↔
      ch.state ≠ .disabled ∧ ch.state ≠ .clearing ∧ (v - ch.cqHead).toNat ≤ (ch.cqTail - ch.cqHead).toNat := by
  simp only [Channel.cqHeadOk, Bool.and_eq_true, Bool.not_eq_true', indexClosed_iff, decide_eq_true_eq, and_assoc]

/-- A refused index write raises its cause, outside reset. -/
theorem raise_of_operating {u : State} (h : u.operating = true) (c : ChanNo) (causes : BitVec 7) :
    u.raise c causes = u.setChan c { u.chan c with evtPending := (u.chan c).evtPending ||| causes } := by
  unfold State.raise
  rw [if_pos h]
  rfl

/-! ## Doze requests (R181) -/

theorem writeEngCtl_doze (u : State) (d a : Bool) : u.writeEngCtl false d a = u.writeDoze d a := rfl

end Sys2Proof.Machine
end

section
/-! PROOFS. Register writes with a row of their own, index writes, MARK_SET, and the engine's own steps. -/

open Sys2Proof Sys2Proof.Machine Sys2Proof.Certificates

namespace Sys2Proof.Proofs

/-- Settles O13: the complement of the data masks the pending bits; a set is active where pending and mask share a
bit. -/
theorem pendingBitsWrittenOneAreCleared : Obligations.PendingBitsWrittenOneAreCleared := by
  intro s u data hu ho
  subst hu
  refine ⟨fun c => ⟨_, exec_eventPendingClear ho (.channel c) data, ?_, fun b hb => ?_⟩,
    ⟨_, exec_eventPendingClear ho .global data, ?_, fun b hb => ?_⟩, fun v n => ?_⟩
  · simp [State.clearPending, State.respond, State.modChan, State.chan, State.setChan]
  · simp [State.clearPending, fld, hb]
  · simp [State.clearPending, State.respond]
  · simp [State.clearPending, fld, hb]
  · rw [← operating_iff]
    unfold State.irq State.globalActive Channel.active
    simp only [Bool.and_eq_true, Bool.or_eq_true, List.any_eq_true, mem_allChannels, true_and, beq_iff_eq]
    simp only [← and_ne_zero_iff]
    rfl

/-- Settles O14: every lane takes its new state once; no other item changes. -/
theorem laneEnableActsByLaneState : Obligations.LaneEnableActsByLaneState := by
  intro s u data hu ho
  subst hu
  obtain ⟨lanes, heq, hlanes⟩ := writeLaneEnable_eq s.settled (fld data 0 4)
  have hbit (l : LaneNo) : (fld data 0 4).getLsbD l.val = data.getLsbD l.val := by
    simp [fld, l.isLt]
  refine ⟨_, exec_laneEnable ho data, ?_, fun l => ?_⟩
  · rw [heq]
    simp only [hbit]
    rfl
  · rw [heq]
    refine (hlanes l).trans ?_
    rw [setEnabled_eq, hbit]

/-- Settles O15: a busy invalidation refuses; a free one stores its scope, empties the cache of what it removes, marks
the walk and ages what the lanes hold. -/
theorem invalidationStartsByScope : Obligations.InvalidationStartsByScope := by
  intro s u scope sid hu ho
  subst hu
  refine ⟨fun hbusy => exec_invalGo_busy ho hbusy scope sid, fun hfree => ?_⟩
  obtain ⟨lanes, hgo, hlanes⟩ := writeInvalCtl_go s.settled scope sid
  have hexec := exec_invalGo_free ho hfree scope sid
  rw [hgo] at hexec
  refine ⟨_, hexec, rfl, fun l => ⟨congrArg Lane.txns (hlanes l), (hlanes l).trans ?_⟩⟩
  exact congrArg (fun t => { s.settled.lane l with cursor := (s.settled.lane l).cursor.markOld, txns := t })
    (congrArg Lane.txns (hlanes l)).symm

/-- Settles O16: the table of R181, row by row. -/
theorem dozeRequestsActByPowerState : Obligations.DozeRequestsActByPowerState := by
  intro s u a hu ho
  subst hu
  have hreset := ((operating_iff _).mp ho).1
  have hagenda : s.settled.agenda = [] := rfl
  rw [exec_dozeReqSet ho, exec_dozeReqClear ho, writeEngCtl_doze, writeEngCtl_doze]
  generalize s.settled = u at *
  have hpower {p : PowerState} (b : Bool) (hp : u.power = p) :
      ({ u with dozeReq := b, autoWake := a } : State).power = p := hp
  refine ⟨fun hp => ?_, fun hp => ?_, fun hp => ?_, fun hp => ?_, fun hp => ?_⟩ <;>
    refine congrArg Host.Outcome.next ?_ <;> unfold State.writeDoze State.actOnDozeReq
  · rw [if_pos rfl, if_pos (hpower true hp)]
    rfl
  · rw [if_pos rfl, if_neg hp]
    rfl
  · rw [if_neg (by simp), if_neg (by simp [hp]), if_neg (by simp [hp])]
    rfl
  · rw [if_neg (by simp), if_pos (hpower false hp), releasedSteps_eq]
    simp only [State.callFor, State.respond, hagenda, List.append_nil]
    rfl
  · rw [if_neg (by simp), if_neg (by simp [hp]), if_pos (hpower false hp),
      wakeUp_of_resetN (s := { u with dozeReq := false, autoWake := a }) hreset]
    simp only [State.respond, hagenda, List.append_nil]
    rfl

/-- Settles O17: the doorbell check is R42 and R43, the CQ_HEAD check R46. -/
theorem indexWritesStoreOrAreRefused : Obligations.IndexWritesStoreOrAreRefused := by
  refine ⟨fun s u c data hu ho => ?_, fun s u c data hu ho => ?_⟩
  · subst hu
    have hreset := ((operating_iff _).mp ho).1
    have hagenda : s.settled.agenda = [] := rfl
    rw [exec_doorbell ho]
    generalize s.settled = u at *
    have hok := doorbellOk_iff (u.chan c) (data.extractLsb' 0 16)
    refine ⟨fun h => ?_, fun h => ?_, fun h => ?_⟩ <;> refine congrArg Host.Outcome.next ?_ <;>
      unfold State.writeDoorbell fld
    · rw [if_pos (hok.mpr h.1)]
      dsimp only
      rw [if_neg (by simpa using h.2)]
      rfl
    · rw [if_pos (hok.mpr h.1)]
      dsimp only
      rw [if_pos (by simpa using h.2), wakeUp_of_resetN (by simpa using hreset)]
      simp only [State.respond, modChan_agenda, hagenda, List.append_nil]
      rfl
    · rw [if_neg (fun hf => h (hok.mp hf)), raise_of_operating ho]
      rfl
  · subst hu
    rw [exec_cqHeadWrite ho]
    generalize s.settled = u at *
    have hok := cqHeadOk_iff (u.chan c) (data.extractLsb' 0 16)
    refine ⟨fun h => ?_, fun h => ?_⟩ <;> refine congrArg Host.Outcome.next ?_ <;> unfold State.writeCqHead fld
    · rw [if_pos (hok.mpr h)]
      rfl
    · rw [if_neg (fun hf => h (hok.mp hf)), raise_of_operating ho]
      rfl

/-- Settles O18: the write itself in full, nothing in reset, and 0 in the context after a channel reset. -/
theorem markSetWritesTheCounter : Obligations.MarkSetWritesTheCounter := by
  intro s u c data hu
  subst hu
  refine ⟨fun ho => ?_, fun ho => congrArg Host.Outcome.next ((serialise_eq s _).trans (access_reset ho _)),
    fun hdue => ?_⟩
  · rw [exec_markSet ho]
    rfl
  · exact ⟨_, exec_channelResetEnd_due hdue, by simp [Channel.afterReset]⟩

/-- Settles O49: each step is due only where its rule calls for it, in an engine that is not in reset. -/
theorem engineStepsTakeTheirMoment : Obligations.EngineStepsTakeTheirMoment := by
  intro s
  refine ⟨fun hdue => ?_, fun hdue => ?_, fun hdue => ?_⟩ <;>
    refine congrArg Host.Outcome.next ((serialiseDue_due hdue).trans ?_) <;> have hcalls := callsFor_of_nextDue hdue
  · have hinval : s.invalDue = true := hcalls
    have ho : s.operating = true := by
      simp only [State.invalDue, Bool.and_eq_true] at hinval
      exact hinval.1.1
    change s.invalDoneStep = _
    rw [State.invalDoneStep, if_pos hinval, State.endInvalidation, raiseGlobal_eq]
    exact congrArg (fun g => ({ s with inval := { s.inval with busy := false, requestsDone := s.inval.requestsDone + 1#8 }, glbPending := g } : State)) (if_pos ho)
  · have hdoze : s.dozeDue = true := hcalls
    have hreset : s.resetN = true := by
      simp only [State.dozeDue, Bool.and_eq_true] at hdoze
      exact hdoze.1.1
    change s.enterDoze = _
    rw [State.enterDoze, if_pos hdoze, raiseGlobal_eq]
    simp [State.operating, hreset]
    rfl
  · have hwake : s.wakeOwed = true := hcalls
    have ho : s.operating = true := by
      simp only [State.wakeOwed, Bool.and_eq_true] at hwake
      exact hwake.1.1
    change s.wakeAfterWait = _
    rw [State.wakeAfterWait, if_pos hwake, wakeUp_of_resetN ((operating_iff s).mp ho).1]

end Sys2Proof.Proofs
end

section
/-! SUPPORT. The register window: where each register stands, what passes the checks, and how its fields lie in its
word (section 1.1). -/

open Sys2Proof.Certificates

namespace Sys2Proof.Machine

/-! ## The words of the window (R3) -/

/-- The registers of a configuration block. -/
theorem decodeOffset_config (c : ChanNo) :
    decodeOffset (cfgOff c 0x00) = some (.low (.sqBase c)) ∧ decodeOffset (cfgOff c 0x04) = some (.high (.sqBase c)) ∧
    decodeOffset (cfgOff c 0x08) = some (.sqSize c) ∧ decodeOffset (cfgOff c 0x0C) = some (.low (.cqBase c)) ∧
    decodeOffset (cfgOff c 0x10) = some (.high (.cqBase c)) ∧ decodeOffset (cfgOff c 0x14) = some (.cqSize c) ∧
    decodeOffset (cfgOff c 0x18) = some (.bind c) ∧ decodeOffset (cfgOff c 0x1C) = some (.waitMask c) ∧
    decodeOffset (cfgOff c 0x20) = some (.evtRoute c) ∧ decodeOffset (cfgOff c 0x24) = some (.coalesce c) ∧
    decodeOffset (cfgOff c 0x28) = some (.command .chCtl c) ∧ decodeOffset (cfgOff c 0x2C) = some (.markSet c) := by
  revert c
  decide

/-- The registers of a channel window. -/
theorem decodeOffset_window (c : ChanNo) :
    decodeOffset (winOff c 0x00) = some (.sqTail c) ∧ decodeOffset (winOff c 0x04) = some (.sqHead c) ∧
    decodeOffset (winOff c 0x08) = some (.cqHead c) ∧ decodeOffset (winOff c 0x0C) = some (.cqTail c) ∧
    decodeOffset (winOff c 0x10) = some (.chState c) ∧ decodeOffset (winOff c 0x14) = some (.command .chCmd c) ∧
    decodeOffset (winOff c 0x18) = some (.chCmdResult c) ∧ decodeOffset (winOff c 0x1C) = some (.mark c) ∧
    decodeOffset (winOff c 0x20) = some (.evtPending c) ∧ decodeOffset (winOff c 0x24) = some (.evtMask c) ∧
    decodeOffset (winOff c 0x28) = some (.progress c) ∧ decodeOffset (winOff c 0x2C) = some (.flushed c) ∧
    decodeOffset (winOff c 0x30) = some (.faultCause c) ∧ decodeOffset (winOff c 0x34) = some (.faultIndex c) ∧
    decodeOffset (winOff c 0x38) = some (.faultElement c) ∧ decodeOffset (winOff c 0x40) = some (.faultAddrLo c) ∧
    decodeOffset (winOff c 0x44) = some (.faultAddrHi c) ∧ decodeOffset (winOff c 0x48) = some (.faultEntryLo c) ∧
    decodeOffset (winOff c 0x4C) = some (.faultEntryHi c) := by
  revert c
  decide

/-- The registers of a space descriptor. -/
theorem decodeOffset_space (x : SpaceNo) :
    decodeOffset (spcOff x 0x0) = some (.spaceCfg x) ∧ decodeOffset (spcOff x 0x8) = some (.low (.spaceRoot x)) ∧
    decodeOffset (spcOff x 0xC) = some (.high (.spaceRoot x)) := by
  revert x
  decide

/-! ## Halves of 64-bit registers (R8, R9) -/

theorem extractLsb'_zero_eq_setWidth {w n : Nat} (x : BitVec w) : x.extractLsb' 0 n = x.setWidth n := by
  ext i
  simp

/-- A mask of the low k bits. -/
theorem and_lowMask (x : BitVec 32) (k : Nat) : x &&& BitVec.ofNat 32 (2 ^ k - 1) = (x.extractLsb' 0 k).setWidth 32 := by
  apply BitVec.eq_of_getLsbD_eq
  intro i hi
  rw [BitVec.getLsbD_and, BitVec.getLsbD_ofNat, Nat.testBit_two_pow_sub_one]
  simp [hi, Bool.and_comm]

theorem extractLsb'_append_low (data st : BitVec 32) : (data ++ st : BitVec 64).extractLsb' 0 32 = st := by
  apply BitVec.eq_of_getLsbD_eq
  intro i hi
  have h := BitVec.getLsbD_append (x := data) (y := st) (i := i)
  rw [BitVec.getLsbD_extractLsb', Nat.zero_add, h]
  simp [hi]

theorem extractLsb'_append_high (data st : BitVec 32) {k : Nat} :
    (data ++ st : BitVec 64).extractLsb' 32 k = data.extractLsb' 0 k := by
  apply BitVec.eq_of_getLsbD_eq
  intro i hi
  have h := BitVec.getLsbD_append (x := data) (y := st) (i := 32 + i)
  rw [BitVec.getLsbD_extractLsb', h]
  simp [hi]

/-- The low half of a register of n bits, its value cut out of 64. -/
theorem halfOf_low_extract (v : BitVec 64) {n : Nat} (hn : 32 ≤ n) :
    halfOf (v.extractLsb' 0 n) false = v.extractLsb' 0 32 := by
  unfold halfOf
  ext i hi
  have hi' : i < n := by omega
  have hi'' : i < 64 := by omega
  simp [hi', hi'']

theorem halfOf_high_extract (v : BitVec 64) (k : Nat) :
    halfOf (v.extractLsb' 0 (32 + k)) true = (v.extractLsb' 32 k).setWidth 32 := by
  unfold halfOf
  ext i hi
  simp
  grind

/-! ## Fields in a word -/

@[simp] theorem putBits_zero (n lo : Nat) : putBits 0#n lo = 0#32 := by
  simp [putBits]

theorem putBits_self (x : BitVec 32) : putBits x 0 = x := by
  simp [putBits]

/-- A field joined from two lies in the word as the two fields do. -/
theorem putBits_append {m n : Nat} (y : BitVec m) (x : BitVec n) (lo : Nat) :
    putBits (y ++ x) lo = putBits x lo ||| putBits y (lo + n) := by
  unfold putBits
  ext i hi
  simp [BitVec.getLsbD_append]
  by_cases h1 : i < lo
  · have : i < lo + n := by omega
    simp [h1, this]
  · by_cases h2 : i - lo < n
    · have : i < lo + n := by omega
      simp [h1, h2, this]
    · have : ¬ i < lo + n := by omega
      have hx : x.getLsbD (i - lo) = false := BitVec.getLsbD_of_ge _ _ (by omega)
      simp [h1, h2, this, hx, Nat.sub_sub]

theorem eq_of_putBits {x y : BitVec 32} (h : x = putBits y 0) : x = y := h.trans (putBits_self y)

theorem halfOf_low {n : Nat} (x : BitVec n) : halfOf x false = x.extractLsb' 0 32 := by
  unfold halfOf
  ext i hi
  have hi' : i < 64 := by omega
  simp [hi']

theorem halfOf_high {n : Nat} (x : BitVec n) (k : Nat) (hn : n = 32 + k) :
    halfOf x true = putBits (x.extractLsb' 32 k) 0 := by
  subst hn
  unfold halfOf putBits
  ext i hi
  have hi' : 32 + i < 64 := by omega
  by_cases h : i < k
  · simp [hi', h]
  · simpa [hi', h] using BitVec.getLsbD_of_ge x (32 + i) (by omega)

/-! ## The lane a channel holds (R19) -/

theorem busy_eq (st : LaneState) : st.busy = (st != .free && st != .disabled) := by
  cases st <;> rfl

theorem busy_iff (st : LaneState) : st.busy = true ↔ st ≠ .free ∧ st ≠ .disabled := by
  simp [busy_eq]

theorem heldLane_eq_none {u : State} {c : ChanNo} (h : ∀ l, ¬((u.lane l).state.busy = true ∧ (u.lane l).owner = some c)) :
    u.heldLane c = none := by
  cases hl : u.heldLane c with
  | none => rfl
  | some l => exact absurd (heldLane_some hl) (h l)

theorem heldLane_eq_some {u : State} {c : ChanNo} {l : LaneNo}
    (h : (u.lane l).state.busy = true ∧ (u.lane l).owner = some c)
    (hone : ∀ m, (u.lane m).state.busy = true ∧ (u.lane m).owner = some c → m = l) : u.heldLane c = some l := by
  cases hm : u.heldLane c with
  | none => exact absurd h.2 (heldLane_none hm l h.1)
  | some m => rw [hone m (heldLane_some hm)]

/-! ## What each register reads as (R5, R6, R17) -/

/-- The nibble of LANE_STATUS for one lane. -/
def laneNibble (x : Lane) : BitVec 4 :=
  if x.state.busy then BitVec.ofNat 3 ((x.owner.map (·.val)).getD 0) ++ 1#1 else 0#4

theorem laneStatus_step (x : Lane) (v : BitVec 32) (lo : Nat) :
    (if x.state.busy then
        v ||| putBits 1#1 lo ||| putBits (BitVec.ofNat 3 ((x.owner.map (·.val)).getD 0)) (lo + 1) else v) =
      v ||| putBits (laneNibble x) lo := by
  unfold laneNibble
  cases x.state.busy with
  | false => simp
  | true =>
    rw [if_pos rfl, if_pos rfl]
    repeat rw [putBits_append]
    simp only [BitVec.or_assoc]

theorem laneStatus_eq (u : State) :
    u.laneStatus =
      0#16 ++ laneNibble (u.lane 3) ++ laneNibble (u.lane 2) ++ laneNibble (u.lane 1) ++ laneNibble (u.lane 0) := by
  refine eq_of_putBits ?_
  repeat rw [putBits_append]
  unfold State.laneStatus allLanes
  simp only [List.foldl_cons, List.foldl_nil, laneStatus_step]
  simp [BitVec.or_assoc]

theorem engStatus_eq (u : State) :
    u.engStatus = 0#22 ++ bit u.inval.busy ++ bit u.walker.isSome ++ 0#1 ++ BitVec.ofNat 3 u.busyLanes ++ 0#2 ++
      u.power.code := by
  refine eq_of_putBits ?_
  repeat rw [putBits_append]
  simp [State.engStatus, BitVec.or_assoc]

theorem chStateWord_eq (u : State) (c : ChanNo) :
    u.chStateWord c = 0#19 ++ bit (u.chan c).lap ++ 0#1 ++ BitVec.ofNat 2 (((u.heldLane c).map (·.val)).getD 0) ++
      bit (u.heldLane c).isSome ++ 0#2 ++ bit (u.chan c).abortPending ++ bit (u.chan c).pausePending ++
      (u.chan c).state.code := by
  refine eq_of_putBits ?_
  repeat rw [putBits_append]
  simp [State.chStateWord, BitVec.or_assoc]

theorem bind_eq (g : ChannelConfig) :
    g.bind = 0#18 ++ bit g.eventAll ++ bit g.stopOnError ++ 0#2 ++ g.priority ++ 0#3 ++ bit g.trust ++
      BitVec.ofNat 4 g.sid.val := by
  refine eq_of_putBits ?_
  repeat rw [putBits_append]
  simp [ChannelConfig.bind, BitVec.or_assoc]

theorem causeWord_eq (f : FaultRecord) :
    f.causeWord = f.count ++ 0#10 ++ f.level ++ 0#1 ++ f.access.code ++ f.prior.code ++ f.cause.code := by
  refine eq_of_putBits ?_
  repeat rw [putBits_append]
  simp [FaultRecord.causeWord, BitVec.or_assoc]

theorem spaceWord_eq (x : Space) :
    putBits x.mode 0 ||| putBits (bit x.flagUpdate) 4 = 0#27 ++ bit x.flagUpdate ++ 0#2 ++ x.mode := by
  refine eq_of_putBits ?_
  repeat rw [putBits_append]
  simp

theorem coalesceWord_eq (g : ChannelConfig) :
    putBits g.threshold 0 ||| putBits g.timer 16 = g.timer ++ 0#8 ++ g.threshold := by
  refine eq_of_putBits ?_
  repeat rw [putBits_append]
  simp

theorem engCtlWord_eq (u : State) :
    putBits (bit u.dozeReq) 1 ||| putBits (bit u.autoWake) 2 = 0#29 ++ bit u.autoWake ++ bit u.dozeReq ++ 0#1 := by
  refine eq_of_putBits ?_
  repeat rw [putBits_append]
  simp

theorem invalCtlWord_eq (v : Inval) :
    putBits v.scope 0 ||| putBits (BitVec.ofNat 4 v.sid.val) 4 = 0#24 ++ BitVec.ofNat 4 v.sid.val ++ 0#2 ++ v.scope := by
  refine eq_of_putBits ?_
  repeat rw [putBits_append]
  simp

theorem invalStatusWord_eq (v : Inval) :
    putBits (bit v.busy) 0 ||| putBits v.requestsDone 8 = 0#16 ++ v.requestsDone ++ 0#7 ++ bit v.busy := by
  refine eq_of_putBits ?_
  repeat rw [putBits_append]
  simp

theorem refusalLogWord_eq (g : RefusalLog) :
    putBits (bit g.valid) 0 ||| putBits g.reason 1 ||| putBits g.offset 8 ||| putBits g.count 24 =
      g.count ++ g.offset ++ 0#4 ++ g.reason ++ bit g.valid := by
  refine eq_of_putBits ?_
  repeat rw [putBits_append]
  simp [BitVec.or_assoc]

/-- A field in the low bits of a word whose other bits are 0. -/
theorem putBits_pad {m n : Nat} (h : m + n = 32) (x : BitVec n) : putBits x 0 = (0#m ++ x).cast h := by
  apply BitVec.eq_of_toNat_eq
  have hx : x.toNat < 2 ^ 32 := Nat.lt_of_lt_of_le x.isLt (Nat.pow_le_pow_right (by decide) (by omega))
  simpa [putBits] using hx

theorem halfOf_high_pa (x : Pa) : halfOf x true = 0#20 ++ x.extractLsb' 32 12 :=
  (halfOf_high x 12 rfl).trans (putBits_pad (m := 20) rfl _)

theorem halfOf_high_eva (x : Eva) : halfOf x true = 0#24 ++ x.extractLsb' 32 8 :=
  (halfOf_high x 8 rfl).trans (putBits_pad (m := 24) rfl _)

theorem halfOf_setWidth {n : Nat} (x : BitVec n) (b : Bool) : halfOf (x.setWidth 64) b = halfOf x b := by
  simp [halfOf]

theorem rootPa_getLsbD (x : Space) (i : Nat) : x.rootPa.getLsbD i = (decide (12 ≤ i) && x.root.getLsbD (i - 12)) := by
  unfold Space.rootPa
  rw [BitVec.getLsbD_append]
  by_cases h : i < 12
  · simp [h]
  · simp [h, Nat.le_of_not_lt h]

/-- The low word of a root register: bits 31..12 of the address. -/
theorem halfOf_rootPa_low (x : Space) : halfOf x.rootPa false = x.root.extractLsb' 0 20 ++ 0#12 := by
  refine eq_of_putBits ?_
  repeat rw [putBits_append]
  unfold halfOf putBits
  ext i hi
  have hi' : i < 64 := by omega
  by_cases h : i < 12
  · simp [h, hi', rootPa_getLsbD]
  · have h20 : i - 12 < 20 := by omega
    simp [h, hi', h20, rootPa_getLsbD]
    omega

theorem halfOf_rootPa_high (x : Space) : halfOf x.rootPa true = 0#20 ++ x.root.extractLsb' 20 12 := by
  refine eq_of_putBits ?_
  repeat rw [putBits_append]
  unfold halfOf putBits
  ext i hi
  have hi' : 32 + i < 64 := by omega
  have h12 : 32 + i - 12 = 20 + i := by omega
  by_cases h : i < 12
  · simp [h, hi', h12, rootPa_getLsbD]
    omega
  · simpa [h, hi', h12, rootPa_getLsbD] using fun _ => BitVec.getLsbD_of_ge x.root (20 + i) (by omega)

/-- What a committed root register reads as: its low word without bits 11..0, bits 43..32 of its value. -/
theorem halfOf_rootPa_commit_low (v : BitVec 64) (x : Space) :
    halfOf ({ x with root := v.extractLsb' 12 32 } : Space).rootPa false = v.extractLsb' 0 32 &&& 0xFFFFF000#32 := by
  have hmask : ∀ i < 32, (0xFFFFF000#32).getLsbD i = decide (12 ≤ i) := by decide
  unfold halfOf
  apply BitVec.eq_of_getLsbD_eq
  intro i hi
  have hi' : i < 64 := by omega
  rw [BitVec.getLsbD_and, hmask i hi]
  by_cases h : 12 ≤ i
  · have h12 : 12 + (i - 12) = i := by omega
    have h32 : i - 12 < 32 := by omega
    simp [h, hi, hi', rootPa_getLsbD, h12, h32]
  · simp [h, hi', rootPa_getLsbD]

theorem halfOf_rootPa_commit_high (v : BitVec 64) (x : Space) :
    halfOf ({ x with root := v.extractLsb' 12 32 } : Space).rootPa true = (v.extractLsb' 32 12).setWidth 32 := by
  unfold halfOf
  apply BitVec.eq_of_getLsbD_eq
  intro i hi
  have h12 : 12 + (32 + i - 12) = 32 + i := by omega
  have hi' : 32 + i < 64 := by omega
  have h32 : (32 + i - 12 < 32) = (i < 12) := by
    apply propext
    omega
  have hle : 12 ≤ 32 + i := by omega
  simp [rootPa_getLsbD, hi, hi', h12, h32, hle]

/-- A read outside reset returns the register's value in the state it finds. -/
theorem read_of_decode {s : State} (ho : s.settled.operating = true) {off : BitVec 16} {r : Reg}
    (hr : decodeOffset off = some r) : s.read off = s.settled.registerValue r := by
  obtain ⟨hreset, hpower⟩ := (operating_iff _).mp ho
  exact readNow_of_decode hreset hr (.inl hpower)

/-! ## Writes that pass every check (R7) -/

/-- A register that R10 to R12 never protect. -/
theorem refusal_free (u : State) {r : Reg} {data : BitVec 32} (hc : protectingChannel r = none)
    (hs : protectingSpace r = none) (hgo : r ≠ .invalCtl ∨ data.getLsbD 31 = false) : u.refusal r data = none := by
  have hinval : (r == Reg.invalCtl && data.getLsbD 31) = false := by
    rcases hgo with h | h
    · simp [h]
    · rw [h, Bool.and_false]
  unfold State.refusal
  rw [hc, hs, hinval]
  rfl

/-- The configuration block of a DISABLED channel is not protected (R10). -/
theorem refusal_disabled {u : State} {c : ChanNo} (h : (u.chan c).state = .disabled) {r : Reg}
    (hc : protectingChannel r = some c) (hs : protectingSpace r = none) (hr : r ≠ .invalCtl) (data : BitVec 32) :
    u.refusal r data = none := by
  simp [State.refusal, hc, hs, hr, h]

theorem exec_registerWrite_passed {s : State} (ho : s.settled.operating = true) {off : BitVec 16} {r : Reg}
    {data : BitVec 32} (halign : off.toNat % 4 = 0) (hr : decodeOffset off = some r)
    (href : s.settled.refusal r data = none) :
    exec (.registerWrite off data) s = .next ((s.settled.storeRegister r data).respond .ok) := by
  refine congrArg Host.Outcome.next ?_
  rw [serialise_eq, writeAt_of_decode _ halign hr, access_operating ho]
  simp [State.writeRegister, href]

/-- The register stores nothing that software writes to it (R6). -/
def ReadOnly (r : Reg) : Prop :=
  (protectingChannel r = none ∧ protectingSpace r = none ∧ r ≠ .invalCtl) ∧
    ∀ (u : State) (data : BitVec 32), u.storeRegister r data = u

theorem cfgOff_aligned (c : ChanNo) {o : Nat} (h : o % 4 = 0) : (cfgOff c o).toNat % 4 = 0 := by
  rw [cfgOff, BitVec.toNat_ofNat]
  omega

theorem winOff_aligned (c : ChanNo) {o : Nat} (h : o % 4 = 0) : (winOff c o).toNat % 4 = 0 := by
  rw [winOff, BitVec.toNat_ofNat]
  omega

theorem spcOff_aligned (x : SpaceNo) {o : Nat} (h : o % 4 = 0) : (spcOff x o).toNat % 4 = 0 := by
  rw [spcOff, BitVec.toNat_ofNat]
  omega

/-- The read-only registers of the tables of section 1.1. -/
def readOnlyReg : Reg → Bool
  | .engId | .engStatus | .resetCause | .tickCount | .laneStatus | .invalStatus => true
  | .sqHead _ | .cqTail _ | .chState _ | .chCmdResult _ | .mark _ | .progress _ | .flushed _ => true
  | .faultCause _ | .faultIndex _ | .faultElement _ => true
  | .faultAddrLo _ | .faultAddrHi _ | .faultEntryLo _ | .faultEntryHi _ => true
  | _ => false

theorem readOnly_of {r : Reg} (h : readOnlyReg r = true) : ReadOnly r := by
  cases r <;> simp only [readOnlyReg, Bool.false_eq_true] at h <;>
    exact ⟨⟨rfl, rfl, by simp⟩, fun _ _ => rfl⟩

/-- The read-only registers of a channel window. -/
theorem readOnly_window (c : ChanNo) :
    ∀ o ∈ [0x04, 0x0C, 0x10, 0x18, 0x1C, 0x28, 0x2C, 0x30, 0x34, 0x38, 0x40, 0x44, 0x48, 0x4C],
      (winOff c o).toNat % 4 = 0 ∧ (decodeOffset (winOff c o)).any readOnlyReg = true := by
  obtain ⟨-, h04, -, h0C, h10, -, h18, h1C, -, -, h28, h2C, h30, h34, h38, h40, h44, h48, h4C⟩ := decodeOffset_window c
  simp [winOff_aligned, h04, h0C, h10, h18, h1C, h28, h2C, h30, h34, h38, h40, h44, h48, h4C, readOnlyReg]

/-- The read-only registers of the engine's own block. -/
theorem readOnly_engine : ∀ off ∈ [0x000#16, 0x008#16, 0x00C#16, 0x014#16, 0x020#16, 0x034#16],
    off.toNat % 4 = 0 ∧ (decodeOffset off).any readOnlyReg = true := by
  simp only [List.forall_mem_cons, List.not_mem_nil, false_imp_iff, implies_true]
  decide

theorem exec_registerWrite_readOnly {s : State} (ho : s.settled.operating = true) {off : BitVec 16}
    (h : off.toNat % 4 = 0 ∧ (decodeOffset off).any readOnlyReg = true) (data : BitVec 32) :
    exec (.registerWrite off data) s = .next { s.settled with port := some .ok } := by
  obtain ⟨halign, hany⟩ := h
  obtain ⟨r, hr, hro⟩ : ∃ r, decodeOffset off = some r ∧ readOnlyReg r = true := by
    cases h : decodeOffset off <;> simp_all
  obtain ⟨⟨hc, hs, hgo⟩, hstore⟩ := readOnly_of hro
  rw [exec_registerWrite_passed ho halign hr (refusal_free _ hc hs (.inl hgo)), hstore]
  rfl

/-- Unassigned offsets decode to no register (R5). -/
theorem decodeOffset_unassigned {off : BitVec 16} (h : Unassigned off) : decodeOffset off = none := by
  unfold Unassigned at h
  unfold decodeOffset
  dsimp only at h ⊢
  generalize off.toNat = n at h
  obtain ⟨halign, h⟩ := h
  split
  · unfold decodeEngineOffset
    split
    on_goal -1 => rfl
    all_goals omega
  · split
    · unfold decodeSpaceOffset
      split
      on_goal -1 => rfl
      all_goals omega
    · split
      · unfold decodeConfigOffset
        split
        on_goal -1 => rfl
        all_goals omega
      · split
        · rfl
        · split
          · unfold decodeWindowOffset
            split
            on_goal -1 => rfl
            all_goals omega
          · rfl

theorem exec_registerWrite_unassigned {s : State} (ho : s.settled.operating = true) {off : BitVec 16} (h : Unassigned off)
    (data : BitVec 32) : exec (.registerWrite off data) s = .next { s.settled with port := some .ok } := by
  refine congrArg Host.Outcome.next ?_
  have halign : off.toNat % 4 = 0 := h.1
  rw [serialise_eq, State.writeAt, if_neg (by simp [halign]), decodeOffset_unassigned h]
  exact access_operating ho id

/-- A space descriptor that no enabled channel is bound to is not protected (R11). -/
theorem refusal_spaceCfg {u : State} {x : SpaceNo} (h : ∀ c, (u.chan c).state ≠ .disabled → (u.chan c).cfg.sid ≠ x)
    (data : BitVec 32) : u.refusal (.spaceCfg x) data = none := by
  have hfree : u.spaceInUse x = false := by
    simpa [State.spaceInUse] using h
  simp [State.refusal, protectingChannel, protectingSpace, hfree]

theorem sidField_eq (x : BitVec 4) : sidField x = ⟨x.toNat, x.isLt⟩ :=
  Fin.ext (Nat.mod_eq_of_lt x.isLt)

end Sys2Proof.Machine
end

section
/-! PROOFS. The 64-bit registers, register writes and every register's reading (chapter 1). -/

open Sys2Proof Sys2Proof.Machine Sys2Proof.Certificates

namespace Sys2Proof.Proofs

/-- Settles O10: both halves pass the checks; the commit cuts its value out of the two halves, which read back. -/
theorem highHalfCommitsWithTheStagedLowHalf : Obligations.HighHalfCommitsWithTheStagedLowHalf := by
  intro s u r data hu ho hfree
  subst hu
  obtain ⟨hreset, hpower⟩ := (operating_iff _).mp ho
  rw [exec_stageLowHalf ho, exec_commitHighHalf ho, writeRegister_half hfree (.inl rfl), writeRegister_half hfree (.inr rfl)]
  refine ⟨rfl, ?_⟩
  generalize s.settled = u at *
  have hmask8 : data &&& 0xFF#32 = (data.extractLsb' 0 8).setWidth 32 := and_lowMask data 8
  have hmask12 : data &&& 0xFFF#32 = (data.extractLsb' 0 12).setWidth 32 := and_lowMask data 12
  have hread {t : State} {off : BitVec 16} {q : Reg} (hq : decodeOffset off = some q) (hreset : t.resetN = true)
      (hpower : t.power ≠ .resetting) : t.readNow off = t.registerValue q := readNow_of_decode hreset hq (.inl hpower)
  cases r with
  | invalAddr =>
    dsimp only
    refine ⟨?_, ?_, ?_⟩
    · simp only [State.storeRegister, State.commit64, extractLsb'_zero_eq_setWidth]
      rfl
    · refine (hread (off := 0x038) (q := .low .invalAddr) (by decide) (by exact hreset) (by exact hpower)).trans ?_
      simp only [State.registerValue, State.value64, halfOf_setWidth]
      rw [halfOf_low_extract _ (by decide), extractLsb'_append_low]
    · refine (hread (off := 0x03C) (q := .high .invalAddr) (by decide) (by exact hreset) (by exact hpower)).trans ?_
      rw [hmask8]
      simp only [State.registerValue, State.value64, halfOf_setWidth]
      rw [halfOf_high_extract _ 8, extractLsb'_append_high]
  | spaceRoot x =>
    obtain ⟨-, hlow, hhigh⟩ := decodeOffset_space x
    dsimp only
    refine ⟨rfl, ?_, ?_⟩
    · refine (hread hlow (by exact hreset) (by exact hpower)).trans ?_
      simp only [State.registerValue, State.value64, halfOf_setWidth, space_setSpace_same]
      rw [halfOf_rootPa_commit_low, extractLsb'_append_low]
    · refine (hread hhigh (by exact hreset) (by exact hpower)).trans ?_
      rw [hmask12]
      simp only [State.registerValue, State.value64, halfOf_setWidth, space_setSpace_same]
      rw [halfOf_rootPa_commit_high, extractLsb'_append_high]
  | sqBase c =>
    obtain ⟨hlow, hhigh, -⟩ := decodeOffset_config c
    dsimp only
    refine ⟨?_, ?_, ?_⟩
    · simp only [State.storeRegister, State.commit64, extractLsb'_zero_eq_setWidth]
      rfl
    · refine (hread hlow (by exact hreset) (by exact hpower)).trans ?_
      simp only [State.registerValue, State.value64, halfOf_setWidth, chan_modChan_same]
      rw [halfOf_low_extract _ (by decide), extractLsb'_append_low]
    · refine (hread hhigh (by exact hreset) (by exact hpower)).trans ?_
      rw [hmask12]
      simp only [State.registerValue, State.value64, halfOf_setWidth, chan_modChan_same]
      rw [halfOf_high_extract _ 12, extractLsb'_append_high]
  | cqBase c =>
    obtain ⟨-, -, -, hlow, hhigh, -⟩ := decodeOffset_config c
    dsimp only
    refine ⟨?_, ?_, ?_⟩
    · simp only [State.storeRegister, State.commit64, extractLsb'_zero_eq_setWidth]
      rfl
    · refine (hread hlow (by exact hreset) (by exact hpower)).trans ?_
      simp only [State.registerValue, State.value64, halfOf_setWidth, chan_modChan_same]
      rw [halfOf_low_extract _ (by decide), extractLsb'_append_low]
    · refine (hread hhigh (by exact hreset) (by exact hpower)).trans ?_
      rw [hmask12]
      simp only [State.registerValue, State.value64, halfOf_setWidth, chan_modChan_same]
      rw [halfOf_high_extract _ 12, extractLsb'_append_high]

/-- Settles O11: each register's fields by its word, and each write by the check it passes and the field it stores. -/
theorem registerWritesStoreTheirFields : Obligations.RegisterWritesStoreTheirFields := by
  intro s u data hu ho
  subst hu
  have hwrite {off : BitVec 16} {r : Reg} (halign : off.toNat % 4 = 0) (hr : decodeOffset off = some r)
      (href : s.settled.refusal r data = none) :
      exec (.registerWrite off data) s = .next ((s.settled.storeRegister r data).respond .ok) :=
    exec_registerWrite_passed ho halign hr href
  have hread {off : BitVec 16} {r : Reg} (hr : decodeOffset off = some r) : s.read off = s.settled.registerValue r :=
    read_of_decode ho hr
  have hreadOnly {off : BitVec 16} (h : off.toNat % 4 = 0 ∧ (decodeOffset off).any readOnlyReg = true) :
      exec (.registerWrite off data) s = .next { s.settled with port := some .ok } :=
    exec_registerWrite_readOnly ho h data
  have hdiscard {off : BitVec 16} (h : Unassigned off) :
      exec (.registerWrite off data) s = .next { s.settled with port := some .ok } :=
    exec_registerWrite_unassigned ho h data
  dsimp only
  generalize s.settled = u at *
  have hfree {r : Reg} (hc : protectingChannel r = none) (hs : protectingSpace r = none) (hr : r ≠ .invalCtl) :
      u.refusal r data = none := refusal_free u hc hs (.inl hr)
  refine ⟨?_, ?_, ?_, ?_, ?_, fun hgo => ?_, fun x hx => ?_, fun c => ⟨?_, ?_, fun hc => ⟨?_, ?_, ?_, ?_, ?_⟩⟩,
    fun off hoff => ⟨?_, ?_⟩, ?_, ?_, ?_, fun x => ?_, fun c => ?_, fun c => ?_, ?_⟩
  · exact hwrite (r := .tickDiv) (by decide) (by decide) (hfree rfl rfl (by simp))
  · exact hwrite (r := .busTimeout) (by decide) (by decide) (hfree rfl rfl (by simp))
  · exact hwrite (r := .agingLimit) (by decide) (by decide) (hfree rfl rfl (by simp))
  · exact hwrite (r := .glbEvtMask) (by decide) (by decide) (hfree rfl rfl (by simp))
  · exact hwrite (r := .glbEvtRoute) (by decide) (by decide) (hfree rfl rfl (by simp))
  · rw [hwrite (r := .invalCtl) (by decide) (by decide) (refusal_free u rfl rfl (.inr hgo))]
    simp only [State.storeRegister, State.writeInvalCtl, hgo, sidField_eq]
    rfl
  · rw [hwrite (spcOff_aligned x (by decide)) (decodeOffset_space x).1 (refusal_spaceCfg hx data)]
    rfl
  · rw [hwrite (cfgOff_aligned c (by decide)) (r := .coalesce c) (by simp [decodeOffset_config]) (hfree rfl rfl (by simp))]
    rfl
  · rw [hwrite (winOff_aligned c (by decide)) (r := .evtMask c) (by simp [decodeOffset_window]) (hfree rfl rfl (by simp))]
    rfl
  · rw [hwrite (cfgOff_aligned c (by decide)) (r := .sqSize c) (by simp [decodeOffset_config])
      (refusal_disabled hc rfl rfl (by simp) data)]
    rfl
  · rw [hwrite (cfgOff_aligned c (by decide)) (r := .cqSize c) (by simp [decodeOffset_config])
      (refusal_disabled hc rfl rfl (by simp) data)]
    rfl
  · rw [hwrite (cfgOff_aligned c (by decide)) (r := .bind c) (by simp [decodeOffset_config])
      (refusal_disabled hc rfl rfl (by simp) data)]
    simp only [State.storeRegister, State.modConfig, ChannelConfig.setBind, sidField_eq]
    rfl
  · rw [hwrite (cfgOff_aligned c (by decide)) (r := .waitMask c) (by simp [decodeOffset_config])
      (refusal_disabled hc rfl rfl (by simp) data)]
    rfl
  · rw [hwrite (cfgOff_aligned c (by decide)) (r := .evtRoute c) (by simp [decodeOffset_config])
      (refusal_disabled hc rfl rfl (by simp) data)]
    rfl
  · exact hdiscard hoff
  · simp [State.readNow, decodeOffset_unassigned hoff]
  · exact fun off hoff => hreadOnly (readOnly_engine off hoff)
  · exact fun c o hmem => hreadOnly (readOnly_window c o hmem)
  · simp only [← busy_eq]
    refine ⟨(hread (r := .engId) (by decide)).trans rfl, (hread (r := .engCtl) (by decide)).trans (engCtlWord_eq u),
      (hread (r := .engStatus) (by decide)).trans (engStatus_eq u),
      (hread (r := .resetCause) (by decide)).trans (putBits_pad (m := 30) rfl _),
      (hread (r := .tickDiv) (by decide)).trans (putBits_pad (m := 16) rfl _),
      (hread (r := .tickCount) (by decide)).trans rfl,
      (hread (r := .busTimeout) (by decide)).trans (putBits_pad (m := 16) rfl _),
      (hread (r := .laneEnable) (by decide)).trans (putBits_pad (m := 28) rfl _),
      (hread (r := .laneStatus) (by decide)).trans (laneStatus_eq u),
      (hread (r := .agingLimit) (by decide)).trans (putBits_pad (m := 24) rfl _),
      (hread (r := .invalCtl) (by decide)).trans (invalCtlWord_eq _),
      (hread (r := .invalStatus) (by decide)).trans (invalStatusWord_eq _),
      (hread (r := .low .invalAddr) (by decide)).trans ((halfOf_setWidth _ _).trans (halfOf_low _)),
      (hread (r := .high .invalAddr) (by decide)).trans ((halfOf_setWidth _ _).trans (halfOf_high_eva _)),
      (hread (r := .glbEvtPending) (by decide)).trans (putBits_pad (m := 28) rfl _),
      (hread (r := .glbEvtMask) (by decide)).trans (putBits_pad (m := 28) rfl _),
      (hread (r := .glbEvtRoute) (by decide)).trans (putBits_pad (m := 30) rfl _),
      (hread (r := .refusalLog) (by decide)).trans (refusalLogWord_eq _)⟩
  · obtain ⟨hcfg, hlow, hhigh⟩ := decodeOffset_space x
    refine ⟨(hread hcfg).trans ?_, (hread hlow).trans ?_, (hread hhigh).trans ?_⟩
    · exact spaceWord_eq _
    · exact (halfOf_setWidth _ _).trans (halfOf_rootPa_low _)
    · exact (halfOf_setWidth _ _).trans (halfOf_rootPa_high _)
  · obtain ⟨h00, h04, h08, h0C, h10, h14, h18, h1C, h20, h24, h28, h2C⟩ := decodeOffset_config c
    refine ⟨(hread h00).trans ?_, (hread h04).trans ?_, (hread h08).trans ?_, (hread h0C).trans ?_, (hread h10).trans ?_,
      (hread h14).trans ?_, (hread h18).trans ?_, (hread h1C).trans ?_, (hread h20).trans ?_, (hread h24).trans ?_,
      (hread h28).trans rfl, (hread h2C).trans rfl⟩
    · exact (halfOf_setWidth _ _).trans (halfOf_low _)
    · exact (halfOf_setWidth _ _).trans (halfOf_high_pa _)
    · exact putBits_pad (m := 28) rfl _
    · exact (halfOf_setWidth _ _).trans (halfOf_low _)
    · exact (halfOf_setWidth _ _).trans (halfOf_high_pa _)
    · exact putBits_pad (m := 28) rfl _
    · exact bind_eq _
    · exact putBits_pad (m := 24) rfl _
    · exact putBits_pad (m := 30) rfl _
    · exact coalesceWord_eq _
  · obtain ⟨h00, h04, h08, h0C, h10, h14, h18, h1C, h20, h24, h28, h2C, h30, h34, h38, h40, h44, h48, h4C⟩ :=
      decodeOffset_window c
    refine ⟨(hread h00).trans (putBits_pad (m := 16) rfl _), (hread h04).trans (putBits_pad (m := 16) rfl _),
      (hread h08).trans (putBits_pad (m := 16) rfl _), (hread h0C).trans (putBits_pad (m := 16) rfl _),
      fun hnone => ?_, fun l hl hone => ?_, (hread h14).trans rfl, (hread h18).trans (putBits_pad (m := 24) rfl _),
      (hread h1C).trans rfl, (hread h20).trans (putBits_pad (m := 25) rfl _),
      (hread h24).trans (putBits_pad (m := 25) rfl _), (hread h2C).trans (putBits_pad (m := 16) rfl _),
      (hread h30).trans (causeWord_eq _), (hread h34).trans (putBits_pad (m := 16) rfl _),
      (hread h38).trans (putBits_pad (m := 8) rfl _), (hread h40).trans (halfOf_low _),
      (hread h44).trans (halfOf_high_pa _), (hread h48).trans (halfOf_low _), (hread h4C).trans (halfOf_high_pa _)⟩
    · have hheld : u.heldLane c = none := heldLane_eq_none fun l h => hnone l ⟨h.2, (busy_iff _).mp h.1⟩
      refine ⟨(hread h10).trans ?_, (hread h28).trans ?_⟩
      · rw [State.registerValue, chStateWord_eq, hheld]
        rfl
      · rw [State.registerValue, State.progressCount, hheld]
        exact putBits_pad (m := 8) rfl _
    · have hheld : u.heldLane c = some l :=
        heldLane_eq_some ⟨(busy_iff _).mpr hl.2, hl.1⟩ fun m h => hone m ⟨h.2, (busy_iff _).mp h.1⟩
      refine ⟨(hread h10).trans ?_, (hread h28).trans ?_⟩
      · rw [State.registerValue, chStateWord_eq, hheld]
        rfl
      · rw [State.registerValue, State.progressCount, hheld]
        exact putBits_pad (m := 8) rfl _
  · decide

end Sys2Proof.Proofs
end

section
/-! SUPPORT. What the Event Unit makes of a notice, and the ways a channel changes state, each as the one channel it
writes (chapters 2, 9, 11). -/

open Sys2Proof.Certificates

namespace Sys2Proof.Machine

variable {s : State} (ho : s.operating = true) (c : ChanNo)

/-! ## Notices (R170, R173, R175) -/

/-- What a notice does to the channel it is about. -/
def toldChannel (ch : Channel) (n : Notice) : Channel :=
  let counted := if n.counted then countedChannel ch else ch
  if n.causes = 0#7 then counted else flushed counted n.causes

theorem effectiveThreshold_eq (g : ChannelConfig) : g.effectiveThreshold = max 1 g.threshold.toNat := by
  unfold ChannelConfig.effectiveThreshold
  split
  · rename_i h
    simp [h]
  · rename_i h
    have hpos : g.threshold.toNat ≠ 0 := fun e => h (BitVec.eq_of_toNat_eq e)
    omega

theorem satInc_eq (x : BitVec 8) : satInc x = if x = 255#8 then 255#8 else x + 1#8 := by
  unfold satInc
  split
  · assumption
  · rfl

include ho

theorem reportDone_eq :
    s.reportDone c = s.setChan c
      { s.chan c with evtPending := (s.chan c).evtPending ||| 0x01#7, coalesceCount := 0#8, coalesceTimer := none } := by
  rw [State.reportDone, raise_of_operating ho]
  simp only [State.modChan, chan_setChan_same, setChan_setChan]
  rfl

theorem countSuccess_eq : s.countSuccess c = s.setChan c (countedChannel (s.chan c)) := by
  unfold State.countSuccess countedChannel
  rw [effectiveThreshold_eq]
  split
  · exact reportDone_eq ho c
  · rfl

/-- The causes of a step, raised, flush a coalescing counter that is not 0. -/
theorem raise_flush_eq {causes : BitVec 7} (h : causes ≠ 0#7) :
    (if causes ≠ 0#7 ∧ ((s.raise c causes).chan c).coalesceCount ≠ 0#8 then (s.raise c causes).reportDone c
      else s.raise c causes) = s.setChan c (flushed (s.chan c) causes) := by
  have hcount : ((s.raise c causes).chan c).coalesceCount = (s.chan c).coalesceCount := by
    simp [raise_of_operating ho]
  have hraised : (s.raise c causes).operating = true := by
    rw [raise_of_operating ho]
    exact ho
  rw [hcount]
  by_cases hz : (s.chan c).coalesceCount = 0#8
  · rw [if_neg (by simp [hz]), raise_of_operating ho]
    simp [flushed, hz]
  · rw [if_pos ⟨h, hz⟩, reportDone_eq hraised, raise_of_operating ho]
    simp [flushed, hz]

/-- What the Event Unit makes of a notice, in full. -/
theorem tell_eq (n : Notice) : s.tell c n = s.setChan c (toldChannel (s.chan c) n) := by
  have hcounted : (if n.counted then s.countSuccess c else s) =
      s.setChan c (if n.counted then countedChannel (s.chan c) else s.chan c) := by
    split
    · exact countSuccess_eq ho c
    · simp
  unfold State.tell toldChannel
  dsimp only
  rw [hcounted]
  generalize (if n.counted = true then countedChannel (s.chan c) else s.chan c) = x
  have hx : (s.setChan c x).operating = true := ho
  by_cases h : n.causes = 0#7
  · rw [if_neg (fun hf => hf.1 h), if_pos h, h, raise_of_operating hx]
    simp
  · rw [if_neg h]
    exact (raise_flush_eq hx c h).trans (by simp)

/-- A step that raises causes and counts nothing. -/
theorem tell_causes {causes : BitVec 7} (h : causes ≠ 0#7) :
    s.tell c { causes := causes } = s.setChan c (flushed (s.chan c) causes) := by
  rw [tell_eq ho]
  simp [toldChannel, h]

/-! ## Ways a channel changes state -/

theorem stopChannel_eq : s.stopChannel c = s.setChan c (stoppedChannel (s.chan c)) := by
  have hs : (s.modChan c Channel.stop).operating = true := ho
  rw [State.stopChannel, evtStopped, tell_causes hs c (by decide)]
  simp only [State.modChan, chan_setChan_same, setChan_setChan]
  rfl

theorem enterFaulted_eq (f : FaultInfo) : s.enterFaulted c f = s.setChan c (faultedChannel (s.chan c) f) := by
  unfold State.enterFaulted evtFault
  rw [tell_causes (by exact ho) c (by decide)]
  simp only [State.modChan, chan_setChan_same, setChan_setChan, satInc_eq]
  rfl

omit ho in
theorem nextState_eq (ch : Channel) :
    ch.nextState =
      if ch.abortPending || ch.pausePending || (ch.status != .ok && ch.cfg.stopOnError) then .stopped else .idle := by
  unfold Channel.nextState
  cases ch.abortPending <;> cases ch.pausePending <;> simp

/-- Whether the outcome of a channel's order leaves it STOPPED (R24). -/
def Channel.stops (ch : Channel) : Bool := ch.abortPending || ch.pausePending || (ch.status != .ok && ch.cfg.stopOnError)

/-- A channel past its order, its event fields as they are. -/
def Channel.passed (ch : Channel) (stops : Bool) : Channel :=
  { ch with
    state := if stops then .stopped else .idle
    pausePending := if stops then false else ch.pausePending
    abortPending := if stops then false else ch.abortPending
    sqHead := ch.sqHead + 1#16, order := none }

omit ho in
theorem nextState_stopped (ch : Channel) : ch.nextState = .stopped ↔ ch.stops = true := by
  rw [nextState_eq, Channel.stops]
  split <;> simp_all

omit ho in
theorem finish_eq (ch : Channel) : ch.finish = ch.passed ch.stops := by
  have hstate : ch.nextState = if ch.stops then .stopped else .idle := nextState_eq ch
  unfold Channel.finish Channel.passed
  rw [hstate]
  cases ch.stops <;> rfl

omit ho in
theorem countedChannel_passed (ch : Channel) (b : Bool) : countedChannel (ch.passed b) = (countedChannel ch).passed b := by
  unfold countedChannel Channel.passed
  dsimp only
  split <;> rfl

omit ho in
theorem toldChannel_passed (ch : Channel) (b : Bool) (n : Notice) :
    toldChannel (ch.passed b) n = (toldChannel ch n).passed b := by
  unfold toldChannel
  dsimp only
  rw [countedChannel_passed]
  split <;> split <;> rfl

omit ho in
/-- The finishing step of a channel, its notice taken. -/
theorem toldChannel_finish (ch : Channel) : toldChannel ch.finish ch.finishNotice = finishedChannel ch ch.status := by
  have hnotice : ch.finishNotice =
      { counted := ch.status == .ok && ((ch.order.map fun o => o.getLsbD 9).getD false || ch.cfg.eventAll)
        causes := (if ch.status = .ok then 0x00#7 else 0x02#7) ||| (if ch.stops then 0x08#7 else 0x00#7) } := by
    unfold Channel.finishNotice
    simp only [nextState_stopped, beq_iff_eq]
    rfl
  have hframe (P : Prop) [Decidable P] : (if P then countedChannel ch else ch).pausePending = ch.pausePending ∧
      (if P then countedChannel ch else ch).abortPending = ch.abortPending ∧
      (if P then countedChannel ch else ch).sqHead = ch.sqHead := by
    unfold countedChannel
    split
    · split <;> exact ⟨rfl, rfl, rfl⟩
    · exact ⟨rfl, rfl, rfl⟩
  rw [finish_eq, toldChannel_passed, hnotice]
  unfold toldChannel finishedChannel Channel.passed
  simp only [Bool.and_eq_true, beq_iff_eq]
  rw [← Channel.stops]
  obtain ⟨hpause, habort, hhead⟩ := hframe
    (ch.status = .ok ∧ ((ch.order.map fun o => o.getLsbD 9).getD false || ch.cfg.eventAll) = true)
  generalize (if ch.status = .ok ∧ ((ch.order.map fun o => o.getLsbD 9).getD false || ch.cfg.eventAll) = true
    then countedChannel ch else ch) = x at hpause habort hhead ⊢
  split <;> cases ch.stops <;> simp [flushed, hpause, habort, hhead]

theorem finishOrder_eq : s.finishOrder c = s.setChan c (finishedChannel (s.chan c) (s.chan c).status) := by
  rw [State.finishOrder, tell_eq (by exact ho)]
  simp only [State.modChan, chan_setChan_same, setChan_setChan, toldChannel_finish]

/-! ## Entry to COMPLETING (R24, R27, R49, R50) -/

omit ho in
/-- Whether an order of a status ends without a record (R49). -/
theorem quietSuccess_completing (ch : Channel) (status : Status) (result : BitVec 32) :
    (ch.toCompleting status result).quietSuccess =
      (status == .ok && (ch.order.map fun o => o.getLsbD 8).getD false) := rfl

/-- A quiet success ends in the step. -/
theorem enterCompleting_quiet {status : Status} {result : BitVec 32}
    (h : (status == .ok && ((s.chan c).order.map fun o => o.getLsbD 8).getD false) = true) :
    s.enterCompleting c status result =
      s.setChan c (finishedChannel (completingChannel (s.chan c) status result) status) := by
  unfold State.enterCompleting
  dsimp only
  rw [chan_modChan_same, quietSuccess_completing, if_pos h, finishOrder_eq (by exact ho)]
  simp only [State.modChan, chan_setChan_same, setChan_setChan]
  rfl

omit ho in
/-- Any other order stays, its record owed unless the engine dozes. -/
theorem enterCompleting_record {status : Status} {result : BitVec 32}
    (h : (status == .ok && ((s.chan c).order.map fun o => o.getLsbD 8).getD false) = false) :
    s.enterCompleting c status result =
      { s.setChan c (completingChannel (s.chan c) status result) with agenda := recordOwed s c ++ s.agenda } := by
  unfold State.enterCompleting
  dsimp only
  rw [chan_modChan_same, quietSuccess_completing, h, if_neg Bool.false_ne_true]
  unfold recordOwed
  by_cases hp : s.power = .doze
  · rw [if_pos hp, if_pos (by exact hp)]
    rfl
  · rw [if_neg hp, if_neg (by exact hp)]
    rfl

omit ho in
/-- An outcome other than OK always writes its record. -/
theorem enterCompleting_failed {status : Status} (h : status ≠ .ok) (result : BitVec 32) :
    s.enterCompleting c status result =
      { s.setChan c (completingChannel (s.chan c) status result) with agenda := recordOwed s c ++ s.agenda } :=
  enterCompleting_record c (by simp [h])

omit ho in
theorem enterFetching_eq :
    s.enterFetching c =
      { s.setChan c { s.chan c with state := .fetching, order := none, progress := {}, afterFault := false } with
        agenda := if s.power = .run then .issue c :: s.agenda else s.agenda } := by
  unfold State.enterFetching
  dsimp only
  by_cases hp : s.power = .run
  · rw [if_pos hp, if_pos (by exact hp)]
    rfl
  · rw [if_neg hp, if_neg (by exact hp)]
    rfl

theorem enterWedged_eq (cause : Cause) (addr : Pa) :
    s.enterWedged c cause addr = s.setChan c (flushed
      { s.chan c with
        state := .wedged, pausePending := false, abortPending := false
        fault := { cause := cause, prior := if (s.chan c).afterFault then (s.chan c).fault.cause else .none
                   access := .completion, level := 0
                   count := if (s.chan c).fault.count = 255#8 then 255#8 else (s.chan c).fault.count + 1#8
                   index := (s.chan c).sqHead, element := 0, addr := addr, entry := 0 } } 0x10#7) := by
  unfold State.enterWedged evtWedged
  rw [tell_causes (by exact ho) c (by decide)]
  simp only [State.modChan, chan_setChan_same, setChan_setChan, satInc_eq]

end Sys2Proof.Machine
end

section
/-! SUPPORT. The channel commands: what each does by channel state, outside reset (sections 2.3, 2.4, 9.4). -/

open Sys2Proof.Certificates

namespace Sys2Proof.Machine

/-! ## The commands on an engine outside reset -/

section
variable {s : State} (ho : s.settled.operating = true) (c : ChanNo) (p : CmdPort)
include ho

theorem exec_cmdPause :
    exec (.cmdPause c p) s = .next ((s.settled.runCommand c (s.settled.pause c)).respond .ok) :=
  congrArg Host.Outcome.next ((serialise_eq s _).trans (access_operating ho _))

theorem exec_cmdResume :
    exec (.cmdResume c p) s = .next ((s.settled.runCommand c (s.settled.resumeFault c)).respond .ok) :=
  congrArg Host.Outcome.next ((serialise_eq s _).trans (access_operating ho _))

theorem exec_cmdFail :
    exec (.cmdFail c p) s = .next ((s.settled.runCommand c (s.settled.failOrder c)).respond .ok) :=
  congrArg Host.Outcome.next ((serialise_eq s _).trans (access_operating ho _))

theorem exec_cmdAbort :
    exec (.cmdAbort c p) s = .next ((s.settled.runCommand c (s.settled.abortOrder c)).respond .ok) :=
  congrArg Host.Outcome.next ((serialise_eq s _).trans (access_operating ho _))

theorem exec_cmdReset :
    exec (.cmdReset c) s = .next ((s.settled.runCommand c (s.settled.startReset c)).respond .ok) :=
  congrArg Host.Outcome.next ((serialise_eq s _).trans (access_operating ho _))

theorem exec_unknownCommand (code : BitVec 8) :
    exec (.unknownCommand c p code) s = .next ((s.settled.commandWrite p c code).respond .ok) :=
  congrArg Host.Outcome.next ((serialise_eq s _).trans (access_operating ho _))

end

/-! ## Results (R28) -/

theorem storeResult_eq (u : State) (c : ChanNo) (r : CmdResult) :
    u.storeResult c r = u.setChan c { u.chan c with cmdResult := r } := rfl

@[simp] theorem recordOwed_setChan (u : State) (c d : ChanNo) (x : Channel) :
    recordOwed (u.setChan c x) d = recordOwed u d := rfl

/-- A command's result after an effect on its channel alone. -/
theorem storeResult_setChan (u : State) (c : ChanNo) (x : Channel) (r : CmdResult) :
    (u.setChan c x).storeResult c r = u.setChan c { x with cmdResult := r } := by
  rw [storeResult_eq, chan_setChan_same, setChan_setChan]

/-- A command's result after an effect on its channel that calls for steps. -/
theorem storeResult_setChan_agenda (u : State) (c : ChanNo) (x : Channel) (a : List FollowOn) (r : CmdResult) :
    State.storeResult { u.setChan c x with agenda := a } c r =
      { u.setChan c { x with cmdResult := r } with agenda := a } := by
  have hx : ({ u.setChan c x with agenda := a } : State).chan c = x := chan_setChan_same u c x
  rw [storeResult_eq, hx]
  exact congrArg (fun v : State => { v with agenda := a }) (setChan_setChan u c x { x with cmdResult := r })

theorem runCommand_clearing {u : State} {c : ChanNo} (h : (u.chan c).state = .clearing) (effect : Option State) :
    u.runCommand c effect = u.storeResult c .busy := if_pos h

/-- A command accepted in a state other than CLEARING whose effect is on its channel alone. -/
theorem runCommand_setChan {u : State} {c : ChanNo} {effect : Option State} {x : Channel}
    (h : (u.chan c).state ≠ .clearing) (heffect : effect = some (u.setChan c x)) :
    u.runCommand c effect = u.setChan c { x with cmdResult := .done } := by
  rw [heffect, runCommand_some h, storeResult_setChan]

/-- The answer to a command whose effect is on one channel. -/
theorem answered_setChan {t u : State} {c : ChanNo} {x : Channel} (h : t = u.setChan c x) :
    (Host.Outcome.next (t.respond .ok) : Host.Outcome State Fault Refusal) =
      .next { u.setChan c x with port := some .ok } := by
  rw [h]
  rfl

/-- The answer to a command whose effect is on one channel and calls for steps. -/
theorem answered_agenda {t u : State} {c : ChanNo} {x : Channel} {a : List FollowOn}
    (h : t = { u.setChan c x with agenda := a }) :
    (Host.Outcome.next (t.respond .ok) : Host.Outcome State Fault Refusal) =
      .next { u.setChan c x with agenda := a, port := some .ok } := by
  rw [h]
  rfl

theorem runCommand_setChan_agenda {u : State} {c : ChanNo} {effect : Option State} {x : Channel} {a : List FollowOn}
    (h : (u.chan c).state ≠ .clearing) (heffect : effect = some { u.setChan c x with agenda := a }) :
    u.runCommand c effect = { u.setChan c { x with cmdResult := .done } with agenda := a } := by
  rw [heffect, runCommand_some h, storeResult_setChan_agenda]

/-- A command accepted without effect. -/
theorem runCommand_self {u : State} {c : ChanNo} (h : (u.chan c).state ≠ .clearing) :
    u.runCommand c (some u) = u.setChan c { u.chan c with cmdResult := .done } := by
  rw [runCommand_some h, storeResult_eq]

/-! ## Where each command is WRONG_STATE (R28) -/

theorem pause_none {u : State} {c : ChanNo} (h : (u.chan c).state = .disabled ∨ (u.chan c).state = .wedged) :
    u.pause c = none := by
  rcases h with h | h <;> simp [State.pause, h]

theorem abortOrder_none {u : State} {c : ChanNo} (h : (u.chan c).state = .disabled ∨ (u.chan c).state = .wedged) :
    u.abortOrder c = none := by
  rcases h with h | h <;> simp [State.abortOrder, h]

theorem continueRun_none {u : State} {c : ChanNo} (h : (u.chan c).state ≠ .stopped)
    (hpause : (u.chan c).pausePending = false) : u.continueRun c = none := by
  simp [State.continueRun, h, hpause]

theorem resumeFault_none {u : State} {c : ChanNo} (h : (u.chan c).state ≠ .faulted) : u.resumeFault c = none := by
  simp [State.resumeFault, Channel.dataFaulted, Channel.ringFaulted, h]

theorem failOrder_none {u : State} {c : ChanNo} (h : (u.chan c).dataFaulted = false) : u.failOrder c = none := by
  simp [State.failOrder, h]

theorem enable_none {u : State} {c : ChanNo} (h : (u.chan c).state ≠ .disabled) : u.enable c = none := if_neg h

theorem runEnable_not_disabled {u : State} {c : ChanNo} (h : (u.chan c).state ≠ .disabled) :
    u.runEnable c = u.runCommand c (u.enable c) := if_neg fun hf => h hf.1

theorem disable_none {u : State} {c : ChanNo} (h : (u.chan c).state ≠ .idle) (h' : (u.chan c).state ≠ .stopped) :
    u.disable c = none := if_neg (by simp [h, h'])

theorem startReset_some {u : State} {c : ChanNo} (h : (u.chan c).state ≠ .clearing) :
    u.startReset c = some ((u.modChan c Channel.startClearing).latchHeld c) := if_neg h

/-! ## FAULTED channels (R18, R34) -/

theorem dataFaulted_eq {ch : Channel} (h : ch.state = .faulted) : ch.dataFaulted = (ch.fault.access != .ring) := by
  simp [Channel.dataFaulted, h]

theorem ringFaulted_eq {ch : Channel} (h : ch.state = .faulted) : ch.ringFaulted = (ch.fault.access == .ring) := by
  simp [Channel.ringFaulted, h]

/-! ## The configuration check (R29) -/

theorem modeUsable_iff (m : BitVec 2) : modeUsable m = true ↔ m = 1#2 ∨ m = 2#2 := by
  simp [modeUsable]

theorem configOk_iff (u : State) (c : ChanNo) : u.configOk c = true ↔ ConfigurationOk u c := by
  unfold State.configOk ConfigurationOk ringSizeOk ringBaseOk ChannelConfig.sqSlots ChannelConfig.cqSlots Config.paEnd
  simp only [Bool.and_eq_true, Bool.or_eq_true, decide_eq_true_eq, modeUsable_iff, bne_iff_ne, ne_eq]
  tauto

/-! ## The drain of a held lane (R124) -/

theorem latchHeld_none {u : State} {c : ChanNo} (h : u.heldLane c = none) : u.latchHeld c = u := by
  simp [State.latchHeld, h]

theorem latchHeld_some {u : State} {c : ChanNo} {l : LaneNo} (h : u.heldLane c = some l) :
    u.latchHeld c = u.latchLane l := by
  simp [State.latchHeld, h]

@[simp] theorem heldLane_setChan (u : State) (c d : ChanNo) (x : Channel) :
    (u.setChan c x).heldLane d = u.heldLane d := rfl

@[simp] theorem heldLane_modChan (u : State) (c d : ChanNo) (f : Channel → Channel) :
    (u.modChan c f).heldLane d = u.heldLane d := rfl

/-! ## A command leaves every other channel as it is (R39) -/

section
variable {u : State} (ho : u.operating = true) {c d : ChanNo} (hd : d ≠ c)
include hd

theorem storeResult_chan_ne (t : State) (r : CmdResult) : (t.storeResult c r).chan d = t.chan d :=
  chan_modChan_ne t _ hd

theorem runCommand_chan_ne {effect : Option State} (h : ∀ t, effect = some t → t.chan d = u.chan d) :
    (u.runCommand c effect).chan d = u.chan d :=
  runCommand_induct (P := fun t => t.chan d = u.chan d) (fun t r ht => (storeResult_chan_ne hd t r).trans ht) rfl h

theorem continueRun_chan_ne {t : State} (h : u.continueRun c = some t) : t.chan d = u.chan d := by
  unfold State.continueRun at h
  split at h
  · cases h
    exact chan_modChan_ne u _ hd
  · split at h
    · cases h
      exact chan_modChan_ne u _ hd
    · cases h

theorem flush_chan_ne {t : State} (h : u.flush c = some t) : t.chan d = u.chan d := by
  unfold State.flush at h
  split at h <;> cases h
  exact chan_modChan_ne u _ hd

theorem enable_chan_ne {t : State} (h : u.enable c = some t) : t.chan d = u.chan d := by
  unfold State.enable at h
  split at h <;> cases h
  exact chan_modChan_ne u _ hd

theorem runEnable_chan_ne : (u.runEnable c).chan d = u.chan d := by
  unfold State.runEnable
  split
  · exact storeResult_chan_ne hd u _
  · exact runCommand_chan_ne hd fun _ => enable_chan_ne hd

theorem disable_chan_ne {t : State} (h : u.disable c = some t) : t.chan d = u.chan d := by
  unfold State.disable at h
  split at h <;> cases h
  exact chan_modChan_ne u _ hd

theorem startReset_chan_ne {t : State} (h : u.startReset c = some t) : t.chan d = u.chan d := by
  unfold State.startReset at h
  split at h <;> cases h
  exact (latchHeld_chan _ _ _).trans (chan_modChan_ne u _ hd)

theorem stopChannel_chan_ne : (u.stopChannel c).chan d = u.chan d := by
  obtain ⟨_, _, _, h⟩ := stopChannel_frame u c
  rw [h]
  exact chan_modChan_ne u _ hd

theorem enterCompleting_chan_ne (status : Status) (result : BitVec 32) :
    (u.enterCompleting c status result).chan d = u.chan d := by
  rcases enterCompleting_cases u c status result with ⟨_, _, _, h⟩ | h | h <;> rw [h]
  · exact chan_modChan_ne u _ hd
  · exact chan_modChan_ne u _ hd
  · rw [chan_callFor]
    exact chan_modChan_ne u _ hd

theorem enterFetching_chan_ne : (u.enterFetching c).chan d = u.chan d := by
  rw [enterFetching_eq]
  exact chan_setChan_ne u _ hd

theorem pause_chan_ne {t : State} (h : u.pause c = some t) : t.chan d = u.chan d := by
  have hstop : (u.stopChannel c).chan d = u.chan d := stopChannel_chan_ne hd
  have hpending : (u.modChan c fun ch => { ch with pausePending := true }).chan d = u.chan d := chan_modChan_ne u _ hd
  unfold State.pause at h
  split at h <;> cases h
  · exact hstop
  · exact hstop
  · exact hstop
  · exact hstop
  · exact hpending
  · exact hpending
  · exact hpending
  · exact hpending
  · exact Eq.refl (u.chan d)

theorem resumeFault_chan_ne {t : State} (h : u.resumeFault c = some t) : t.chan d = u.chan d := by
  unfold State.resumeFault at h
  dsimp only at h
  split at h
  · cases h
    split
    · rw [chan_callFor]
      exact chan_modChan_ne u _ hd
    · exact chan_modChan_ne u _ hd
  · split at h
    · cases h
      split
      · exact stopChannel_chan_ne hd
      · exact enterFetching_chan_ne hd
    · cases h

theorem failOrder_chan_ne {t : State} (h : u.failOrder c = some t) : t.chan d = u.chan d := by
  unfold State.failOrder at h
  split at h <;> cases h
  exact (enterCompleting_chan_ne hd _ _).trans (chan_modChan_ne u _ hd)

theorem abortOrder_chan_ne {t : State} (h : u.abortOrder c = some t) : t.chan d = u.chan d := by
  have hcompleting (f : Channel → Channel) (status : Status) (result : BitVec 32) :
      ((u.modChan c f).enterCompleting c status result).chan d = u.chan d :=
    (enterCompleting_chan_ne hd _ _).trans (chan_modChan_ne u _ hd)
  unfold State.abortOrder at h
  split at h
  · cases h
    exact stopChannel_chan_ne hd
  · cases h
    exact stopChannel_chan_ne hd
  · cases h
    exact stopChannel_chan_ne hd
  · cases h
    exact hcompleting _ _ _
  · cases h
    exact hcompleting _ _ _
  · split at h <;> cases h
    · exact stopChannel_chan_ne hd
    · exact hcompleting _ _ _
  · split at h <;> cases h
    · rfl
    · exact (latchHeld_chan _ _ _).trans (chan_modChan_ne u _ hd)
  · cases h
    exact chan_modChan_ne u _ hd
  · cases h
    rfl
  all_goals cases h

end

end Sys2Proof.Machine
end

section
/-! PROOFS. The channel commands (chapter 2, section 9.4). -/

open Sys2Proof Sys2Proof.Machine Sys2Proof.Certificates

namespace Sys2Proof.Proofs

/-- Settles O19: each command's effect by channel state. -/
theorem pauseContinueAndDisableActByChannelState : Obligations.PauseContinueAndDisableActByChannelState := by
  intro s u c p hu ho
  subst hu
  rw [exec_cmdPause ho, exec_cmdContinue ho, exec_cmdDisable ho]
  generalize s.settled = u at *
  refine ⟨fun h => ?_, fun h => ?_, fun h => ?_, fun h => ?_, fun h hp => ?_, fun h => ?_⟩ <;> refine answered_setChan ?_
  · refine runCommand_setChan (by rcases h with h | h | h | h <;> simp [h]) ?_
    rcases h with h | h | h | h <;> simp [State.pause, h, stopChannel_eq ho]
  · refine runCommand_setChan (x := { u.chan c with pausePending := true }) (by rcases h with h | h | h | h <;> simp [h]) ?_
    rcases h with h | h | h | h <;> simp [State.pause, h, State.modChan]
  · have heffect : u.pause c = some u := by simp [State.pause, h]
    rw [heffect]
    exact runCommand_self (by simp [h])
  · refine runCommand_setChan (x := { u.chan c with state := .idle }) (by simp [h]) ?_
    simp [State.continueRun, h, State.modChan]
  · have hstate : (u.chan c).state ≠ .stopped ∧ (u.chan c).state ≠ .clearing ∧ (u.chan c).state ≠ .disabled ∧
        (u.chan c).state ≠ .wedged := by
      cases hst : (u.chan c).state <;> simp_all [Safety.pauseAllowed]
    obtain ⟨hstopped, hclearing, hdisabled, hwedged⟩ := hstate
    refine runCommand_setChan (x := { u.chan c with pausePending := false }) hclearing ?_
    simp [State.continueRun, hstopped, hdisabled, hwedged, hp, State.modChan]
  · refine runCommand_setChan (x := { u.chan c with state := .disabled }) (by rcases h with h | h <;> simp [h]) ?_
    rw [State.disable, if_pos h]
    rfl

/-- Settles O20: FAULTED is left by the access kind of the fault. -/
theorem resumeAndFailLeaveFaulted : Obligations.ResumeAndFailLeaveFaulted := by
  intro s u c p hu ho hstate
  subst hu
  have hagenda : s.settled.agenda = [] := rfl
  rw [exec_cmdResume ho, exec_cmdFail ho]
  generalize s.settled = u at *
  have hclearing : (u.chan c).state ≠ .clearing := by simp [hstate]
  have hdata := dataFaulted_eq hstate
  have hring := ringFaulted_eq hstate
  refine ⟨fun h => ?_, fun h hp => ?_, fun h hp => ?_, fun h => ?_⟩
  · refine answered_agenda ?_
    refine runCommand_setChan_agenda (x := { u.chan c with state := .queued }) hclearing ?_
    rw [State.resumeFault, if_pos (by simp [hdata, h])]
    dsimp only
    by_cases hrun : u.power = .run
    · rw [if_pos hrun, if_pos (by exact hrun)]
      simp [State.callFor, State.modChan, hagenda]
    · rw [if_neg hrun, if_neg (by exact hrun), ← hagenda]
      rfl
  · refine answered_agenda ?_
    refine runCommand_setChan_agenda
      (x := { u.chan c with state := .fetching, order := none, progress := {}, afterFault := false }) hclearing ?_
    rw [State.resumeFault, if_neg (by simp [hdata, h]), if_pos (by simp [hring, h]), if_neg (by simp [hp]),
      enterFetching_eq, hagenda]
  · refine answered_setChan ?_
    refine runCommand_setChan hclearing ?_
    rw [State.resumeFault, if_neg (by simp [hdata, h]), if_pos (by simp [hring, h]), if_pos hp, stopChannel_eq ho]
  · refine answered_agenda ?_
    refine runCommand_setChan_agenda
      (x := { completingChannel (u.chan c) .faultUnresolved 0#32 with afterFault := true }) hclearing ?_
    rw [State.failOrder, if_pos (by simp [hdata, h]), enterCompleting_failed _ (by decide)]
    simp [State.modChan, hagenda, recordOwed_setChan, completingChannel]

/-- Settles O21: ABORT by channel state; a RUNNING channel drains its lane and keeps everything else. -/
theorem abortActsByChannelState : Obligations.AbortActsByChannelState := by
  intro s u c p hu ho
  subst hu
  have hagenda : s.settled.agenda = [] := rfl
  rw [exec_cmdAbort ho]
  generalize s.settled = u at *
  refine ⟨fun h => ?_, fun h => ?_, fun w h hw => ?_, fun h hk => ?_, fun h => ?_, fun h => ?_, fun l h ha hl hd => ?_⟩
  · refine answered_setChan ?_
    refine runCommand_setChan (by rcases h with h | h | h | h <;> simp [h]) ?_
    rcases h with h | h | h | h <;> simp [State.abortOrder, Channel.ringFaulted, h, stopChannel_eq ho]
  · refine answered_agenda ?_
    refine runCommand_setChan_agenda
      (x := { completingChannel (u.chan c) .aborted 0#32 with abortPending := true }) (by simp [h]) ?_
    simp [State.abortOrder, h, enterCompleting_failed, State.modChan, hagenda, recordOwed_setChan, completingChannel, Channel.toAbort]
  · refine answered_agenda ?_
    refine runCommand_setChan_agenda
      (x := { completingChannel (u.chan c) .aborted (u.chan w.target).mark with abortPending := true }) (by simp [h]) ?_
    simp [State.abortOrder, h, enterCompleting_failed, State.modChan, hagenda, recordOwed_setChan, completingChannel,
      Channel.toAbort, State.waitValue, hw]
  · refine answered_agenda ?_
    refine runCommand_setChan_agenda
      (x := { completingChannel (u.chan c) .aborted 0#32 with abortPending := true, afterFault := true }) (by simp [h]) ?_
    simp [State.abortOrder, h, enterCompleting_failed, State.modChan, hagenda, recordOwed_setChan, completingChannel,
      Channel.toAbort, Channel.ringFaulted, hk]
  · refine answered_setChan ?_
    refine runCommand_setChan (x := { u.chan c with abortPending := true }) (by simp [h]) ?_
    simp [State.abortOrder, h, State.modChan, Channel.toAbort]
  · refine answered_setChan ?_
    have heffect : u.abortOrder c = some u := by simp [State.abortOrder, h]
    rw [heffect]
    exact runCommand_self (by simp [h])
  · obtain ⟨hbusy, -⟩ := heldLane_some hl
    have heffect : u.abortOrder c = some ((u.modChan c Channel.toAbort).latchLane l) := by
      simp [State.abortOrder, h, ha, latchHeld_some (u := u.modChan c Channel.toAbort) (l := l) (by simpa using hl)]
    have hchan := latchHeld_chan (u.modChan c Channel.toAbort) c c
    have hframe := latchLane_eq (u.modChan c Channel.toAbort) l
    have hdrained := (latchLane_drained (u.modChan c Channel.toAbort) l).1 (by simpa using hbusy)
    have hlanes (m : LaneNo) (hm : m ≠ l) := latchLane_lane_ne (u.modChan c Channel.toAbort) hm
    rw [latchHeld_some (l := l) (by simpa using hl)] at hchan
    rw [heffect, runCommand_some (by simp [h])]
    generalize (u.modChan c Channel.toAbort).latchLane l = t at hchan hframe hdrained hlanes
    refine ⟨_, rfl, ?_, hdrained.1, hdrained.2.1, hdrained.2.2, hlanes, ?_⟩
    · simp [hchan, Channel.toAbort]
    · exact congrArg (fun v : State => { v with channels := (t.storeResult c .done).channels, port := some .ok }) hframe

/-- Settles O23: the Boolean check is the configuration check of R29. -/
theorem enableChecksTheConfiguration : Obligations.EnableChecksTheConfiguration := by
  intro s u c hu ho hstate
  subst hu
  rw [exec_cmdEnable ho]
  generalize s.settled = u at *
  refine ⟨fun h => ?_, fun h => ?_⟩ <;> refine answered_setChan ?_
  · rw [State.runEnable, if_neg (by simp [(configOk_iff u c).mpr h])]
    refine runCommand_setChan (x := (u.chan c).enabled) (by simp [hstate]) ?_
    rw [State.enable, if_pos hstate]
    rfl
  · rw [← configOk_iff, Bool.not_eq_true] at h
    rw [State.runEnable, if_pos ⟨hstate, h⟩, storeResult_eq]

/-- Settles O24: CLEARING at once; a held lane drains for its channel. -/
theorem resetCommandStopsTheChannel : Obligations.ResetCommandStopsTheChannel := by
  intro s u c hu ho hstate
  subst hu
  rw [exec_cmdReset ho]
  generalize s.settled = u at *
  rw [startReset_some hstate, runCommand_some hstate]
  refine ⟨fun hnone => ?_, fun l hl => ⟨_, rfl, ?_, fun d hd => ?_, ?_⟩⟩
  · rw [latchHeld_none (by simpa using hnone)]
    simp [State.storeResult, State.respond, State.modChan, Channel.startClearing, Channel.leaveRing]
  · simp [latchHeld_chan, Channel.startClearing, Channel.leaveRing]
  · rw [chan_respond, storeResult_chan_ne hd, latchHeld_chan, chan_modChan_ne _ _ hd]
  · obtain ⟨hbusy, howner⟩ := heldLane_some hl
    have hlatch : (u.modChan c Channel.startClearing).latchHeld c = (u.modChan c Channel.startClearing).latchLane l :=
      latchHeld_some (by simpa using hl)
    rw [hlatch]
    have hdrained := (latchLane_drained (u.modChan c Channel.startClearing) l).1 (by simpa using hbusy)
    obtain ⟨hdrain, hown, htxns⟩ := hdrained
    exact ⟨hdrain, hown.trans howner, htxns, fun m hm => latchLane_lane_ne (u.modChan c Channel.startClearing) hm⟩

/-- Settles O25: each command where its state does not allow it, and the codes no register accepts. -/
theorem rejectedCommandsChangeOnlyTheResult : Obligations.RejectedCommandsChangeOnlyTheResult := by
  intro s u c p hu ho
  subst hu
  refine ⟨fun x hx hrejected hclearing hflag => ?_, fun x hx hclearing => ?_, fun code hlow hhigh => ?_⟩
  · have hwrong {i : Instr} {effect : Option State}
        (hexec : exec i s = .next ((s.settled.runCommand c effect).respond .ok)) (hnone : effect = none) :
        exec i s = .next { s.settled.setChan c { s.settled.chan c with cmdResult := .wrongState } with port := some .ok } := by
      rw [hexec, hnone, runCommand_none hclearing]
      rfl
    have henable (h : (s.settled.chan c).state ≠ .disabled) : exec (.cmdEnable c) s =
        .next ((s.settled.runCommand c (s.settled.enable c)).respond .ok) := by
      rw [exec_cmdEnable ho, runEnable_not_disabled h]
    simp only [commands, List.mem_cons, List.not_mem_nil, or_false] at hx
    rcases hx with rfl | rfl | rfl | rfl | rfl | rfl | rfl | rfl | rfl
    · exact hwrong (exec_cmdPause ho c p) (pause_none (by simp at hrejected; tauto))
    · obtain ⟨hstopped, hpause⟩ := Bool.or_eq_false_iff.mp hrejected
      have hpending : (s.settled.chan c).pausePending = false := by
        by_contra hp
        rw [Bool.not_eq_false] at hp
        have hallowed : Safety.pauseAllowed (s.settled.chan c).state = false := by
          rw [hp, Bool.true_and] at hpause
          exact hpause
        simp [pauseFlagOk, hp, hallowed] at hflag
      exact hwrong (exec_cmdContinue ho c p) (continueRun_none (by simpa using hstopped) hpending)
    · exact hwrong (exec_cmdResume ho c p) (resumeFault_none (by simpa using hrejected))
    · exact hwrong (exec_cmdFail ho c p) (failOrder_none hrejected)
    · exact hwrong (exec_cmdAbort ho c p) (abortOrder_none (by simp at hrejected; tauto))
    · exact hwrong (exec_cmdFlush ho c p) (flush_not_stopped (by simpa using hrejected))
    · have hstate : (s.settled.chan c).state ≠ .disabled := by simpa using hrejected
      exact hwrong (henable hstate) (enable_none hstate)
    · simp only [Bool.or_eq_false_iff, beq_eq_false_iff_ne] at hrejected
      exact hwrong (exec_cmdDisable ho c) (disable_none hrejected.1 hrejected.2)
    · simp at hrejected
      exact absurd hrejected hclearing
  · have hbusy {i : Instr} {effect : Option State}
        (hexec : exec i s = .next ((s.settled.runCommand c effect).respond .ok)) :
        exec i s = .next { s.settled.setChan c { s.settled.chan c with cmdResult := .busy } with port := some .ok } := by
      rw [hexec, runCommand_clearing hclearing]
      rfl
    have henable : exec (.cmdEnable c) s = .next ((s.settled.runCommand c (s.settled.enable c)).respond .ok) := by
      rw [exec_cmdEnable ho, runEnable_not_disabled (by simp [hclearing])]
    simp only [commands, List.mem_cons, List.not_mem_nil, or_false] at hx
    rcases hx with rfl | rfl | rfl | rfl | rfl | rfl | rfl | rfl | rfl
    exacts [hbusy (exec_cmdPause ho c p), hbusy (exec_cmdContinue ho c p), hbusy (exec_cmdResume ho c p),
      hbusy (exec_cmdFail ho c p), hbusy (exec_cmdAbort ho c p), hbusy (exec_cmdFlush ho c p), hbusy henable,
      hbusy (exec_cmdDisable ho c), hbusy (exec_cmdReset ho c)]
  · have haccepts : p.accepts code = false := by
      simp only [CmdPort.accepts, Bool.or_eq_false_iff, decide_eq_false_iff_not, Bool.and_eq_false_iff,
        beq_eq_false_iff_ne]
      tauto
    rw [exec_unknownCommand ho, State.commandWrite, if_pos (by simp [haccepts])]
    rfl

/-- Settles O26: in reset a command has no effect; outside it no effect reaches another channel. -/
theorem commandsLeaveOtherChannelsAlone : Obligations.CommandsLeaveOtherChannelsAlone := by
  intro s u c d p hu hd x hx
  subst hu
  have hresult (t : State) : (t.respond .ok).chan d = t.chan d := chan_respond t .ok d
  cases ho : s.settled.operating with
  | false =>
    have hreset := (accessesInResetChangeNothing s _ rfl ho).1
    simp only [commands, List.mem_cons, List.not_mem_nil, or_false] at hx
    rcases hx with rfl | rfl | rfl | rfl | rfl | rfl | rfl | rfl | rfl
    all_goals exact ⟨_, hreset _ rfl, rfl⟩
  | true =>
    have hrun {effect : Option State} (h : ∀ t, effect = some t → t.chan d = s.settled.chan d) :
        ((s.settled.runCommand c effect).respond .ok).chan d = s.settled.chan d :=
      (hresult _).trans (runCommand_chan_ne hd h)
    simp only [commands, List.mem_cons, List.not_mem_nil, or_false] at hx
    rcases hx with rfl | rfl | rfl | rfl | rfl | rfl | rfl | rfl | rfl
    · exact ⟨_, exec_cmdPause ho c p, hrun fun _ => pause_chan_ne hd⟩
    · exact ⟨_, exec_cmdContinue ho c p, hrun fun _ => continueRun_chan_ne hd⟩
    · exact ⟨_, exec_cmdResume ho c p, hrun fun _ => resumeFault_chan_ne hd⟩
    · exact ⟨_, exec_cmdFail ho c p, hrun fun _ => failOrder_chan_ne hd⟩
    · exact ⟨_, exec_cmdAbort ho c p, hrun fun _ => abortOrder_chan_ne hd⟩
    · exact ⟨_, exec_cmdFlush ho c p, hrun fun _ => flush_chan_ne hd⟩
    · exact ⟨_, exec_cmdEnable ho c, (hresult _).trans (runEnable_chan_ne hd)⟩
    · exact ⟨_, exec_cmdDisable ho c, hrun fun _ => disable_chan_ne hd⟩
    · exact ⟨_, exec_cmdReset ho c, hrun fun _ => startReset_chan_ne hd⟩

/-- Settles O27: the context after a channel reset. -/
theorem channelResetEndClearsTheContext : Obligations.ChannelResetEndClearsTheContext := by
  intro s c hdue
  refine ⟨_, exec_channelResetEnd_due hdue, ?_, ?_⟩
  · rw [chan_callFor, chan_modChan_same]
    rfl
  · simp [Channel.afterReset]

end Sys2Proof.Proofs
end

section
/-! SUPPORT. The timebase, the Synchroniser and the rings: what each step of a channel sequencer does to its channel
(chapters 3, 4, 10, 11). -/

open Sys2Proof.Certificates

namespace Sys2Proof.Machine

/-! ## Entry to COMPLETING of a channel just written -/

theorem enterCompleting_setChan_quiet {u : State} (ho : u.operating = true) (c : ChanNo) {ch : Channel} {status : Status}
    {result : BitVec 32} (h : (status == .ok && (ch.order.map fun o => o.getLsbD 8).getD false) = true) :
    (u.setChan c ch).enterCompleting c status result =
      u.setChan c (finishedChannel (completingChannel ch status result) status) := by
  rw [enterCompleting_quiet (by exact ho) c (by simpa using h), chan_setChan_same, setChan_setChan]

theorem enterCompleting_setChan_record (u : State) (c : ChanNo) {ch : Channel} {status : Status} {result : BitVec 32}
    (h : (status == .ok && (ch.order.map fun o => o.getLsbD 8).getD false) = false) :
    (u.setChan c ch).enterCompleting c status result =
      { u.setChan c (completingChannel ch status result) with agenda := recordOwed u c ++ u.agenda } := by
  rw [enterCompleting_record c (by rw [chan_setChan_same]; exact h), chan_setChan_same, recordOwed_setChan,
    setChan_setChan]
  rfl

/-! ## The steps at their moment -/

theorem exec_tickBoundary (s : State) : exec .tickBoundary s = .next s.settled.tickBoundary := rfl

theorem activeWait_of_waitDue {s : State} {c : ChanNo} {w : WaitEntry} (hw : (s.chan c).wait = some w)
    (h : (s.activeWait c).isSome = true) : s.operating = true ∧ s.activeWait c = some w := by
  unfold State.activeWait at h ⊢
  split at h
  · rename_i hactive
    rw [if_pos hactive, hw]
    simp only [Bool.and_eq_true] at hactive
    exact ⟨hactive.1, rfl⟩
  · cases h

/-- The resolution of a wait entry with a status that writes a record. -/
theorem resolveWait_record {s : State} {c : ChanNo} {w : WaitEntry} {status : Status} {o : BitVec 512}
    (horder : (s.chan c).order = some o) (h : status ≠ .ok ∨ ordQuiet o = false) :
    s.resolveWait c w status =
      { s.setChan c (completingChannel (s.chan c) status (s.chan w.target).mark) with
        agenda := recordOwed s c ++ (if s.power = .doze then [.wake] else []) ++ s.agenda } := by
  have hrecord : (status == .ok && ((s.chan c).order.map fun o => o.getLsbD 8).getD false) = false := by
    rw [horder]
    rcases h with h | h
    · simp [h]
    · exact (congrArg (status == .ok && ·) h).trans (Bool.and_false _)
  unfold State.resolveWait
  by_cases hd : s.power = .doze
  · simp only [if_pos hd]
    rw [enterCompleting_record c (by exact hrecord)]
    simp only [callFor_agenda, List.append_assoc]
    rfl
  · simp only [if_neg hd]
    rw [enterCompleting_record c hrecord]
    simp

/-- The resolution of a quiet order with status OK. -/
theorem resolveWait_quiet {s : State} (ho : s.operating = true) {c : ChanNo} {w : WaitEntry} {o : BitVec 512}
    (horder : (s.chan c).order = some o) (h : ordQuiet o = true) :
    s.resolveWait c w .ok =
      { s.setChan c (finishedChannel (completingChannel (s.chan c) .ok (s.chan w.target).mark) .ok) with
        agenda := (if s.power = .doze then [.wake] else []) ++ s.agenda } := by
  have hquiet : ((Status.ok == .ok) && ((s.chan c).order.map fun o => o.getLsbD 8).getD false) = true := by
    rw [horder]
    exact h
  unfold State.resolveWait
  by_cases hd : s.power = .doze
  · simp only [if_pos hd]
    rw [enterCompleting_quiet (by exact ho) c (by exact hquiet)]
    rfl
  · simp only [if_neg hd]
    rw [enterCompleting_quiet ho c hquiet]
    rfl

/-! ## Fetching (R20, R47, R48) -/

/-- A step taken in a settled state. -/
theorem serialiseDue_settled {s : State} (h : s.isSettled = true) (d : Due) : s.serialiseDue d = s.take d := by
  have hnone : s.nextDue = none := by
    simp only [State.isSettled, Bool.and_eq_true, Option.isNone_iff_eq_none] at h
    exact h.2
  rw [serialiseDue_not_due (by simp [hnone]), settled_of_isSettled h]

theorem slotFree_iff (ch : Channel) :
    ch.slotFree = true ↔ (ch.cqTail - ch.cqHead).toNat < 2 ^ ch.cfg.cqSize.toNat := by
  unfold Channel.slotFree Channel.occupiedSlots ChannelConfig.cqSlots
  rw [decide_eq_true_eq]

/-- What the head of the agenda calls for a channel is due before anything else (R20, R50). -/
theorem nextDue_issue {s : State} {c : ChanNo} {rest : List FollowOn} {d : Due} (ha : s.agenda = .issue c :: rest)
    (hd : s.issueDue c = some d) : s.nextDue = some d := by
  simp [State.nextDue, State.ownIssueDue, ha, hd]

theorem awaiting_of_left {ch : Channel} (h : ∀ x ∈ ch.ring, x.live = false) : ch.awaiting = false := by
  simpa [Channel.awaiting] using h

/-! ## Order reads (R21, R48, R64) -/

section
variable {s : State} (ho : s.settled.operating = true) {c : ChanNo} {k : Nat} {x : RingTxn}
  (hx : (s.settled.chan c).ring[k]? = some x)
include ho hx

theorem exec_ringRead_live {o : BitVec 512} (hkind : x.kind = .read) (hlive : x.live = true)
    (hstate : (s.settled.chan c).state = .fetching) :
    exec (.ringReadResponse c k (some o)) s = .next ((s.settled.endRingTxn c k).receiveOrder c o) := by
  refine congrArg Host.Outcome.next ?_
  have hcounts : s.settled.readCounts c x = true := by simp [State.readCounts, hlive, ho, hstate]
  rw [serialise_eq]
  simp [State.ringReadResponse, hx, hkind, hcounts]

theorem exec_ringRead_error (hkind : x.kind = .read) (hlive : x.live = true)
    (hstate : (s.settled.chan c).state = .fetching) :
    exec (.ringReadResponse c k none) s = .next ((s.settled.endRingTxn c k).ringFault c .ringReadError x.addr) := by
  refine congrArg Host.Outcome.next ?_
  have hcounts : s.settled.readCounts c x = true := by simp [State.readCounts, hlive, ho, hstate]
  rw [serialise_eq]
  simp [State.ringReadResponse, State.ringTxnFails, hx, hkind, hcounts]

omit ho in
theorem exec_ringRead_left (hkind : x.kind = .read) (hlive : x.live = false) (data : Option (BitVec 512)) :
    exec (.ringReadResponse c k data) s = .next (s.settled.endRingTxn c k) := by
  refine congrArg Host.Outcome.next ?_
  have hcounts : s.settled.readCounts c x = false := by simp [State.readCounts, hlive]
  rw [serialise_eq]
  cases data <;> simp [State.ringReadResponse, State.ringTxnFails, hx, hkind, hcounts]

theorem exec_completionWrite_ok {r : BitVec 256} (hkind : x.kind = .write r) (hlive : x.live = true)
    (hstate : (s.settled.chan c).state = .completing) :
    exec (.completionWriteResponse c k true) s = .next ((s.settled.endRingTxn c k).recordWritten c) := by
  refine congrArg Host.Outcome.next ?_
  have hcounts : s.settled.writeCounts c x = true := by simp [State.writeCounts, hlive, ho, hstate]
  rw [serialise_eq]
  simp [State.completionWriteResponse, hx, hkind, hcounts]

theorem exec_completionWrite_error {r : BitVec 256} (hkind : x.kind = .write r) (hlive : x.live = true)
    (hstate : (s.settled.chan c).state = .completing) :
    exec (.completionWriteResponse c k false) s =
      .next ((s.settled.endRingTxn c k).enterWedged c .completionWriteError x.addr) := by
  refine congrArg Host.Outcome.next ?_
  have hcounts : s.settled.writeCounts c x = true := by simp [State.writeCounts, hlive, ho, hstate]
  rw [serialise_eq]
  simp [State.completionWriteResponse, State.ringTxnFails, hx, hkind, hcounts]

omit ho in
theorem exec_completionWrite_left {r : BitVec 256} (hkind : x.kind = .write r) (hlive : x.live = false) (ok : Bool) :
    exec (.completionWriteResponse c k ok) s = .next (s.settled.endRingTxn c k) := by
  refine congrArg Host.Outcome.next ?_
  have hcounts : s.settled.writeCounts c x = false := by simp [State.writeCounts, hlive]
  rw [serialise_eq]
  cases ok <;> simp [State.completionWriteResponse, State.ringTxnFails, hx, hkind, hcounts]

end

theorem endRingTxn_eq (u : State) (c : ChanNo) (k : Nat) :
    u.endRingTxn c k = u.setChan c { u.chan c with ring := (u.chan c).ring.eraseIdx k } := rfl

/-- An order that fails validation. -/
theorem receiveOrder_invalid (u : State) (c : ChanNo) (x : Channel) (o : BitVec 512)
    (h : validate c x.cfg.waitMask o ≠ .ok) :
    (u.setChan c x).receiveOrder c o =
      (u.setChan c { x with order := some o }).enterCompleting c (validate c x.cfg.waitMask o) 0 := by
  unfold State.receiveOrder
  simp only [State.modChan, chan_setChan_same, setChan_setChan]
  generalize validate c x.cfg.waitMask o = status at h
  cases status with
  | ok => exact absurd rfl h
  | _ => rfl

/-- An order that passes validation. -/
theorem receiveOrder_valid (u : State) (c : ChanNo) (x : Channel) (o : BitVec 512) {q : OrderKind}
    (h : validate c x.cfg.waitMask o = .ok) (hq : orderKind o = some q) :
    (u.setChan c x).receiveOrder c o =
      (u.setChan c { x with order := some o, progress := startProgress o }).runOrder c q o := by
  unfold State.receiveOrder
  simp only [State.modChan, chan_setChan_same, setChan_setChan, h, hq]

theorem orderKind_of_valid {c : ChanNo} {mask : BitVec 8} {o : BitVec 512} (h : validate c mask o = .ok) :
    ∃ q, orderKind o = some q := by
  cases hq : orderKind o with
  | some q => exact ⟨q, rfl⟩
  | none => simp [validate, hq] at h

/-- The KIND code of a kind (R57). -/
def OrderKind.code : OrderKind → Nat
  | .move => 1 | .fill => 2 | .digest => 3 | .mark => 4 | .wait => 5 | .note => 6

theorem orderKind_iff (o : BitVec 512) (q : OrderKind) : orderKind o = some q ↔ (o.extractLsb' 0 8).toNat = q.code := by
  unfold orderKind ordKind
  generalize (o.extractLsb' 0 8).toNat = n
  split <;> cases q <;> simp_all [OrderKind.code]

/-- The answer to an order read the channel waits for, where the order fails validation. -/
theorem exec_ringRead_invalid {s : State} (ho : s.settled.operating = true) {c : ChanNo} {k : Nat} {x : RingTxn}
    (hx : (s.settled.chan c).ring[k]? = some x) (hkind : x.kind = .read) (hlive : x.live = true)
    (hstate : (s.settled.chan c).state = .fetching) {o : BitVec 512}
    (h : validate c (s.settled.chan c).cfg.waitMask o ≠ .ok) :
    exec (.ringReadResponse c k (some o)) s =
      .next ((s.settled.setChan c
        { s.settled.chan c with ring := (s.settled.chan c).ring.eraseIdx k, order := some o }).enterCompleting c
          (validate c (s.settled.chan c).cfg.waitMask o) 0) := by
  rw [exec_ringRead_live ho hx hkind hlive hstate, endRingTxn_eq]
  exact congrArg Host.Outcome.next (receiveOrder_invalid _ c _ o h)

/-- The answer to an order read the channel waits for, where the order passes validation. -/
theorem exec_ringRead_valid {s : State} (ho : s.settled.operating = true) {c : ChanNo} {k : Nat} {x : RingTxn}
    (hx : (s.settled.chan c).ring[k]? = some x) (hkind : x.kind = .read) (hlive : x.live = true)
    (hstate : (s.settled.chan c).state = .fetching) {o : BitVec 512} {q : OrderKind}
    (h : validate c (s.settled.chan c).cfg.waitMask o = .ok) (hq : orderKind o = some q) :
    exec (.ringReadResponse c k (some o)) s =
      .next ((s.settled.setChan c
        { s.settled.chan c with ring := (s.settled.chan c).ring.eraseIdx k, order := some o
                                progress := startProgress o }).runOrder c q o) := by
  rw [exec_ringRead_live ho hx hkind hlive hstate, endRingTxn_eq]
  exact congrArg Host.Outcome.next (receiveOrder_valid _ c _ o h hq)

/-- A valid order with nothing to do goes to COMPLETING (R21, R75). -/
theorem runOrder_empty (u : State) (c : ChanNo) {q : OrderKind} {o : BitVec 512}
    (h : q = .note ∨ (q.movesData = true ∧ ordCount o = 0)) : u.runOrder c q o = u.enterCompleting c .ok 0 := by
  rcases h with rfl | ⟨hq, hcount⟩
  · rfl
  · cases q <;> simp_all [OrderKind.movesData, State.runOrder, State.runData]

/-- A valid data-moving order with elements goes to QUEUED (R21, R75). -/
theorem runOrder_data (u : State) (c : ChanNo) (x : Channel) {q : OrderKind} {o : BitVec 512} (hq : q.movesData = true)
    (hcount : ordCount o ≠ 0) :
    (u.setChan c x).runOrder c q o =
      { u.setChan c { x with state := .queued } with
        agenda := if u.power = .run then .grants :: u.agenda else u.agenda } := by
  have hdata : (u.setChan c x).runOrder c q o = (u.setChan c x).runData c o := by
    cases q with
    | move | fill | digest => rfl
    | mark | wait | note => cases hq
  rw [hdata, State.runData, if_neg hcount]
  simp only [State.modChan, chan_setChan_same, setChan_setChan, setChan_power]
  split <;> rfl

theorem runOrder_mark (u : State) (c : ChanNo) (x : Channel) (o : BitVec 512) :
    (u.setChan c x).runOrder c .mark o =
      (State.setChan { u with agenda := .waits c :: u.agenda } c
        { x with mark := x.mark + (o.extractLsb' 384 16).setWidth 32 }).enterCompleting c .ok
          (x.mark + (o.extractLsb' 384 16).setWidth 32) := by
  change State.runMark _ c o = _
  unfold State.runMark State.setMark
  simp only [State.modChan, chan_setChan_same, setChan_setChan]
  rfl

theorem waitTarget_eq {o : BitVec 512} {t : ChanNo} (h : (o.extractLsb' 384 8).toNat = t.val) : waitTarget o = t := by
  apply Fin.ext
  simp [waitTarget, ordTarget, h]

/-- A valid WAIT of a channel whose counter is not written with it. -/
theorem runOrder_wait (u : State) (c : ChanNo) (x : Channel) {o : BitVec 512} {t : ChanNo} (ht : waitTarget o = t)
    (hmark : x.mark = (u.chan c).mark) :
    (u.setChan c x).runOrder c .wait o =
      if waitMet (u.chan t).mark (o.extractLsb' 416 32) = true then
        (u.setChan c x).enterCompleting c .ok (u.chan t).mark
      else if t = c then (u.setChan c x).enterCompleting c .waitSelf (u.chan t).mark
      else u.setChan c { x with
        state := .syncWait
        wait := some { target := t, threshold := o.extractLsb' 416 32, timeout := o.extractLsb' 448 32, ticks := 0 } } := by
  have hcounter : ((u.setChan c x).chan t).mark = (u.chan t).mark := by
    by_cases htc : t = c
    · subst htc
      rw [chan_setChan_same, hmark]
    · rw [chan_setChan_ne u x htc]
  change State.runWait _ c o = _
  unfold State.runWait waitEntryOf
  rw [ht]
  simp only [hcounter, State.modChan, chan_setChan_same, setChan_setChan]
  rfl

/-! ## The progress an order starts with (R70, R92, R106) -/

theorem ordSeed_low (o : BitVec 512) : (ordSeed o).toNat % 65536 = (o.extractLsb' 384 16).toNat := by
  rw [ordSeed, BitVec.extractLsb'_toNat, BitVec.extractLsb'_toNat]
  generalize o.toNat >>> 384 = n
  omega

theorem ordSeed_high (o : BitVec 512) : (ordSeed o).toNat / 65536 = (o.extractLsb' 400 16).toNat := by
  have hshift : o.toNat >>> 400 = o.toNat >>> 384 / 65536 := by
    rw [show 400 = 384 + 16 from rfl, Nat.shiftRight_add, Nat.shiftRight_eq_div_pow _ 16]
  rw [ordSeed, BitVec.extractLsb'_toNat, BitVec.extractLsb'_toNat, hshift]
  generalize o.toNat >>> 384 = n
  omega

theorem decidedDown_eq (o : BitVec 512) :
    decidedDown o = decide ((o.extractLsb' 0 8).toNat = 1 ∧ walkDir (ordSrcWalk o) = 2#2 ∧ walkDir (ordDstWalk o) = 2#2 ∧
      (walkBase (ordSrcWalk o)).toNat < (walkBase (ordDstWalk o)).toNat ∧
      (walkBase (ordDstWalk o)).toNat <
        (walkBase (ordSrcWalk o)).toNat + (o.extractLsb' 32 32).toNat * fmtSize (ordSrcFmt o)) := by
  have hmove : (orderKind o == some .move) = decide ((o.extractLsb' 0 8).toNat = 1) := by
    rw [Bool.eq_iff_iff, beq_iff_eq, decide_eq_true_eq]
    exact orderKind_iff o .move
  rw [Bool.eq_iff_iff]
  simp only [decidedDown, hmove, Bool.and_eq_true, decide_eq_true_eq, beq_iff_eq, and_assoc]
  rfl

/-- The starting progress by the order's fields. -/
theorem startProgress_eq (o : BitVec 512) :
    startProgress o =
      { count := 0, flags := { inexact := false, saturated := false, wrapped := false }
        digestA := if (o.extractLsb' 0 8).toNat = 3 then (o.extractLsb' 384 16).toNat % 65519 else 0
        digestB := if (o.extractLsb' 0 8).toNat = 3 then (o.extractLsb' 400 16).toNat % 65519 else 0
        down := decidedDown o } := by
  have hdigest : orderKind o = some .digest ↔ (o.extractLsb' 0 8).toNat = 3 := orderKind_iff o .digest
  unfold startProgress seedDigest
  simp only [hdigest, ordSeed_low, ordSeed_high]
  rfl

/-- An order other than MOVE and DIGEST starts with the progress at its starting values. -/
theorem startProgress_plain {o : BitVec 512} {q : OrderKind} (hq : orderKind o = some q) (hmove : q ≠ .move)
    (hdigest : q ≠ .digest) : startProgress o = {} := by
  have hdown : decidedDown o = false := by simp [decidedDown, hq, hmove]
  simp [startProgress, hq, hdigest, hdown]

end Sys2Proof.Machine
end

section
/-! PROOFS. The timebase, the Synchroniser, coalescing and the rings (chapters 3, 4, 10, 11). -/

open Sys2Proof Sys2Proof.Machine Sys2Proof.Certificates

namespace Sys2Proof.Proofs

/-- Settles O28: every channel and every lane is counted on once. -/
theorem tickBoundaryCountsEverything : Obligations.TickBoundaryCountsEverything := by
  intro s u hu ho htick
  subst hu
  have hagenda : s.settled.agenda = [] := rfl
  rw [exec_tickBoundary]
  generalize s.settled = u at *
  let v : State := { u with tickCount := u.tickCount + 1#32, tick := some u.tickDiv
                            walker := u.walker.map fun w => { w with age := w.age + 1 } }
  obtain ⟨channels, hchannels, hchan⟩ := modChannels_eq v Channel.tickOn
  obtain ⟨lanes, hlanes, hlane⟩ := modLanes_eq { v with channels := channels } Lane.tickOn
  have htaken : u.tickBoundary = State.callFor { v with channels := channels, lanes := lanes } [.expiries] := by
    rw [State.tickBoundary, if_pos (by simp [ho, htick]), ← hlanes, ← hchannels]
    rfl
  refine ⟨_, congrArg Host.Outcome.next htaken, ?_, fun c => hchan c, fun l => hlane l⟩
  simp only [State.callFor, v, hagenda]
  rfl

/-- Settles O30: the entry that is due is the channel's own; its resolution is an entry to COMPLETING. -/
theorem waitsResolveWithTheCounter : Obligations.WaitsResolveWithTheCounter := by
  intro s c w o hw horder
  have hsatisfied (hdue : s.nextDue = some (.waitSatisfied c)) :
      s.operating = true ∧ exec (.waitSatisfied c) s = .next (s.resolveWait c w .ok) := by
    have hcalls : s.waitDue c = true := callsFor_of_nextDue hdue
    obtain ⟨ho, hactive⟩ := activeWait_of_waitDue hw (by
      unfold State.waitDue at hcalls
      cases h : s.activeWait c <;> simp_all)
    have hmet : s.waitSatisfied w = true := by simpa [State.waitDue, hactive] using hcalls
    refine ⟨ho, congrArg Host.Outcome.next ((serialiseDue_due hdue).trans ?_)⟩
    simp [State.take, State.takeWait, hactive, hmet]
  have hexpired (hdue : s.nextDue = some (.waitTimeout c)) :
      s.operating = true ∧ exec (.waitTimeout c) s =
        .next (s.resolveWait c w (if waitMet (s.chan w.target).mark w.threshold then .ok else .waitTimeout)) := by
    have hcalls : s.waitExpiryDue c = true := callsFor_of_nextDue hdue
    obtain ⟨ho, hactive⟩ := activeWait_of_waitDue hw (by
      unfold State.waitExpiryDue at hcalls
      cases h : s.activeWait c <;> simp_all)
    have hexpired : w.expired = true := by simpa [State.waitExpiryDue, hactive] using hcalls
    refine ⟨ho, congrArg Host.Outcome.next ((serialiseDue_due hdue).trans ?_)⟩
    change s.expireWait c = _
    unfold State.expireWait
    rw [hactive]
    exact if_pos hexpired
  refine ⟨fun hdue hq => ?_, fun hdue hm => ?_, fun hdue hm hq => ?_, fun hq => ⟨fun hdue => ?_, fun hdue hm => ?_⟩⟩
  · rw [(hsatisfied hdue).2, resolveWait_record horder (.inr hq)]
  · rw [(hexpired hdue).2, hm, if_neg Bool.false_ne_true, resolveWait_record horder (.inl (by decide))]
  · rw [(hexpired hdue).2, hm, if_pos rfl, resolveWait_record horder (.inr hq)]
  · rw [(hsatisfied hdue).2, resolveWait_quiet (hsatisfied hdue).1 horder hq]
  · rw [(hexpired hdue).2, hm, if_pos rfl, resolveWait_quiet (hexpired hdue).1 horder hq]

/-- Settles O32: a report of DONE and a counted success, each as the one channel it writes. -/
theorem coalescingRaisesDone : Obligations.CoalescingRaisesDone := by
  intro s c ho
  refine ⟨fun hdue => ?_, fun h => ?_, fun h => ?_⟩
  · refine congrArg Host.Outcome.next ((serialiseDue_due hdue).trans ?_)
    have hcalls : s.timerDue c = true := callsFor_of_nextDue hdue
    change s.expireTimer c = _
    rw [State.expireTimer, if_pos hcalls, reportDone_eq ho]
  · rw [countSuccess_eq ho, countedChannel, if_pos h]
  · rw [countSuccess_eq ho, countedChannel, if_neg (by omega)]

/-- Settles O33: a settled state has no other step due; the slot decides. -/
theorem fetchStartsWhenASlotIsFree : Obligations.FetchStartsWhenASlotIsFree := by
  intro s c hsettled ho hrun
  have hagenda : s.agenda = [] := by
    simp only [State.isSettled, Bool.and_eq_true, List.isEmpty_iff] at hsettled
    exact hsettled.1
  refine ⟨fun hstate hfree => ?_, fun hidle hpending hfull => ?_⟩
  all_goals refine congrArg Host.Outcome.next ((serialiseDue_settled hsettled _).trans ?_)
  all_goals change s.fetchStart c = _
  · have hslot := (slotFree_iff (s.chan c)).mpr hfree
    have hdue : s.fetchDue c = true := by
      rcases hstate with ⟨hidle, hpending⟩ | hwaiting
      · simp [State.fetchDue, Channel.orderPending, ho, hrun, hidle, hpending]
      · simp [State.fetchDue, ho, hrun, hwaiting, hslot]
    rw [State.fetchStart, if_neg (by simp [hdue]), if_pos hslot, enterFetching_eq, if_pos hrun, hagenda]
  · have hslot : (s.chan c).slotFree = false := Bool.eq_false_iff.mpr fun h => hfull ((slotFree_iff _).mp h)
    have hdue : s.fetchDue c = true := by
      simp [State.fetchDue, Channel.orderPending, ho, hrun, hidle, hpending]
    rw [State.fetchStart, if_neg (by simp [hdue]), if_neg (by simp [hslot])]
    rfl

/-- Settles O34: the issue stands at the head of the agenda, and the slot is the index modulo the ring's size. -/
theorem ringTransactionsAreIssuedAtTheirSlots : Obligations.RingTransactionsAreIssuedAtTheirSlots := by
  intro s c rest hagenda ho hleft
  have hawait := awaiting_of_left hleft
  refine ⟨fun hrun hstate => ?_, fun hdoze hstate => ?_⟩
  · have hread : s.ringReadDue c = true := by simp [State.ringReadDue, ho, hrun, hstate, hawait]
    have hrecord : s.recordDue c = false := by simp [State.recordDue, hstate]
    have hdue : s.nextDue = some (.ringRead c) := nextDue_issue hagenda (by simp [State.issueDue, hread, hrecord])
    refine congrArg Host.Outcome.next ((serialiseDue_due hdue).trans ?_)
    change s.ringReadIssue c = _
    rw [State.ringReadIssue, if_neg (by simp [hread])]
    rfl
  · have hrecord : s.recordDue c = true := by simp [State.recordDue, ho, hdoze, hstate, hawait]
    have hdue : s.nextDue = some (.record c) := nextDue_issue hagenda (by simp [State.issueDue, hrecord])
    refine congrArg Host.Outcome.next ((serialiseDue_due hdue).trans ?_)
    change s.recordIssue c = _
    rw [State.recordIssue, if_neg (by simp [hrecord])]
    rfl

/-- Settles O37: the valid order's progress by its fields, and the way out of FETCHING by its kind. -/
theorem validOrdersLeaveFetchingByKind : Obligations.ValidOrdersLeaveFetchingByKind := by
  intro s u c k x o hu ho hx hkind hlive hstate hvalid
  subst hu
  have hagenda : s.settled.agenda = [] := rfl
  obtain ⟨q, hq⟩ := orderKind_of_valid hvalid
  have hcode := (orderKind_iff o q).mp hq
  have hnote (h : (o.extractLsb' 0 8).toNat = 6) : q = .note := by
    cases q <;> simp_all [OrderKind.code]
  have hdata (h : (o.extractLsb' 0 8).toNat ≤ 3) : q.movesData = true := by
    cases q <;> simp_all [OrderKind.code, OrderKind.movesData]
  have hexec := exec_ringRead_valid ho hx hkind hlive hstate hvalid hq
  rw [startProgress_eq, decidedDown_eq] at hexec
  generalize s.settled = u at *
  refine ⟨fun h hq => ?_, fun h hcount => ?_, fun h hq => ?_⟩ <;> rw [hexec] <;> refine congrArg Host.Outcome.next ?_
  · rw [runOrder_empty _ _ (h.imp hnote fun h => ⟨hdata h.1, h.2⟩), enterCompleting_setChan_record u c (by exact hq),
      hagenda, List.append_nil]
    rfl
  · rw [runOrder_data u c _ (hdata h) hcount, hagenda]
  · rw [runOrder_empty _ _ (h.imp hnote fun h => ⟨hdata h.1, h.2⟩), enterCompleting_setChan_quiet ho c (by exact hq)]
    rfl

/-- Settles O38: the counter first, then the entry to COMPLETING, then the waits on it. -/
theorem markAddsToItsCounter : Obligations.MarkAddsToItsCounter := by
  intro s u c k x o hu ho hx hkind hlive hstate hvalid hcode
  subst hu
  have hagenda : s.settled.agenda = [] := rfl
  have hq : orderKind o = some .mark := (orderKind_iff o .mark).mpr hcode
  have hexec := exec_ringRead_valid ho hx hkind hlive hstate hvalid hq
  rw [startProgress_plain hq (by decide) (by decide)] at hexec
  generalize s.settled = u at *
  refine ⟨fun hquiet => ?_, fun hquiet => ?_⟩ <;> rw [hexec] <;> refine congrArg Host.Outcome.next ?_ <;>
    rw [runOrder_mark]
  · rw [enterCompleting_setChan_record _ c (by exact hquiet), hagenda]
    rfl
  · rw [enterCompleting_setChan_quiet (by exact ho) c (by exact hquiet), hagenda]
    rfl

/-- Settles O39: the three rows of the table. -/
theorem waitIsEvaluatedOnEntry : Obligations.WaitIsEvaluatedOnEntry := by
  intro s u c t k x o hu ho hx hkind hlive hstate hvalid hcode htarget
  subst hu
  have hagenda : s.settled.agenda = [] := rfl
  have hq : orderKind o = some .wait := (orderKind_iff o .wait).mpr hcode
  have ht := waitTarget_eq htarget
  have hexec := exec_ringRead_valid ho hx hkind hlive hstate hvalid hq
  rw [startProgress_plain hq (by decide) (by decide)] at hexec
  generalize s.settled = u at *
  rw [runOrder_wait u c _ ht (by rfl)] at hexec
  have hmet : waitMet (u.chan t).mark (o.extractLsb' 416 32) = true ↔
      0 ≤ ((u.chan t).mark - o.extractLsb' 416 32).toInt := decide_eq_true_iff
  refine ⟨fun h hquiet => ?_, fun h hquiet => ?_, fun h htc => ?_, fun h htc => ?_⟩ <;> rw [hexec] <;>
    refine congrArg Host.Outcome.next ?_
  · rw [if_pos (hmet.mpr h), enterCompleting_setChan_record _ c (by exact hquiet), hagenda, List.append_nil]
  · rw [if_pos (hmet.mpr h), enterCompleting_setChan_quiet ho c (by exact hquiet)]
  · rw [if_neg (fun hf => Int.not_le.mpr h (hmet.mp hf)), if_pos htc, enterCompleting_setChan_record _ c rfl, hagenda,
      List.append_nil]
  · rw [if_neg (fun hf => Int.not_le.mpr h (hmet.mp hf)), if_neg htc]

/-- Settles O40: the ring fault in full, and a read left behind. -/
theorem failedOrderReadRingFaults : Obligations.FailedOrderReadRingFaults := by
  intro s u c k x hu ho hx hkind
  subst hu
  refine ⟨fun hlive hstate => ?_, fun hlive data => ?_⟩
  · rw [exec_ringRead_error ho hx hkind hlive hstate, endRingTxn_eq, State.ringFault, enterFaulted_eq (by exact ho),
      chan_setChan_same, setChan_setChan]
    rfl
  · rw [exec_ringRead_left hx hkind hlive, endRingTxn_eq]

/-- Settles O41: the finishing step after the record is accepted, and the wedge. -/
theorem recordResponseFinishesOrWedges : Obligations.RecordResponseFinishesOrWedges := by
  intro s u c k x r hu ho hx hkind
  subst hu
  refine ⟨fun hlive hstate => ?_, fun hlive hstate => ?_, fun hlive ok => ?_⟩
  · rw [exec_completionWrite_ok ho hx hkind hlive hstate, endRingTxn_eq, State.recordWritten, finishOrder_eq (by exact ho)]
    simp only [State.modChan, chan_setChan_same, setChan_setChan]
    rfl
  · rw [exec_completionWrite_error ho hx hkind hlive hstate, endRingTxn_eq, enterWedged_eq (by exact ho)]
    simp only [chan_setChan_same, setChan_setChan]
    rfl
  · rw [exec_completionWrite_left hx hkind hlive, endRingTxn_eq]

end Sys2Proof.Proofs
end

section
/-! SUPPORT. The completion record by its bytes (R51), and validation by the tables of R65 to R67 (chapters 3, 4). -/

open Sys2Proof.Certificates

namespace Sys2Proof.Machine

/-! ## Cutting joined words -/

/-- What lies above the low part of a joined word. -/
theorem extractLsb'_append_add {v w : Nat} (hi : BitVec v) (lo : BitVec w) (i n : Nat) :
    (hi ++ lo).extractLsb' (w + i) n = hi.extractLsb' i n := by
  rw [BitVec.extractLsb'_append_eq_of_le (Nat.le_add_right w i), Nat.add_sub_cancel_left]

/-- A field of a field. -/
theorem extractLsb'_extract {w : Nat} (x : BitVec w) (b m : Nat) {i n : Nat} (h : i + n ≤ m) :
    (x.extractLsb' b m).extractLsb' i n = x.extractLsb' (b + i) n := by
  ext j hj
  have : i + j < m := by omega
  simp [this, Nat.add_assoc]

/-! ## The completion record (R51) -/

section
variable (ch : Channel) (c : ChanNo) (ticks : BitVec 32)

theorem record_tag : (ch.record c ticks).extractLsb' 0 32 = (ch.order.map ordTag).getD 0 :=
  BitVec.extractLsb'_append_eq_right

theorem record_status : (ch.record c ticks).extractLsb' 32 8 = ch.status.code :=
  (extractLsb'_append_add _ _ 0 8).trans BitVec.extractLsb'_append_eq_right

theorem record_flags : (ch.record c ticks).extractLsb' 40 8 = ch.recordFlags :=
  (extractLsb'_append_add _ _ 8 8).trans <| (extractLsb'_append_add _ _ 0 8).trans BitVec.extractLsb'_append_eq_right

theorem record_sqHead : (ch.record c ticks).extractLsb' 48 16 = ch.sqHead :=
  (extractLsb'_append_add _ _ 16 16).trans <| (extractLsb'_append_add _ _ 8 16).trans <|
    (extractLsb'_append_add _ _ 0 16).trans BitVec.extractLsb'_append_eq_right

theorem record_count : (ch.record c ticks).extractLsb' 64 32 = BitVec.ofNat 32 ch.progress.count :=
  (extractLsb'_append_add _ _ 32 32).trans <| (extractLsb'_append_add _ _ 24 32).trans <|
    (extractLsb'_append_add _ _ 16 32).trans <| (extractLsb'_append_add _ _ 0 32).trans BitVec.extractLsb'_append_eq_right

theorem record_result : (ch.record c ticks).extractLsb' 96 32 = ch.recordResult :=
  (extractLsb'_append_add _ _ 64 32).trans <| (extractLsb'_append_add _ _ 56 32).trans <|
    (extractLsb'_append_add _ _ 48 32).trans <| (extractLsb'_append_add _ _ 32 32).trans <|
    (extractLsb'_append_add _ _ 0 32).trans BitVec.extractLsb'_append_eq_right

/-- The record from byte 16 up: the fault fields, the channel, the reserved half-word and the tick count. -/
theorem record_high (i n : Nat) :
    (ch.record c ticks).extractLsb' (128 + i) n =
      (ticks ++ 0#16 ++ BitVec.ofNat 8 c.val ++
        (if ch.status == .faultUnresolved then ch.fault.cause.code.setWidth 8 else 0#8) ++
        (if ch.status == .faultUnresolved then ch.fault.addr.setWidth 64 else 0#64)).extractLsb' i n := by
  have h1 : 128 + i = 32 + (96 + i) := by omega
  have h2 : 96 + i = 8 + (88 + i) := by omega
  have h3 : 88 + i = 8 + (80 + i) := by omega
  have h4 : 80 + i = 16 + (64 + i) := by omega
  have h5 : 64 + i = 32 + (32 + i) := by omega
  rw [h1]
  refine (extractLsb'_append_add _ _ _ n).trans ?_
  rw [h2]
  refine (extractLsb'_append_add _ _ _ n).trans ?_
  rw [h3]
  refine (extractLsb'_append_add _ _ _ n).trans ?_
  rw [h4]
  refine (extractLsb'_append_add _ _ _ n).trans ?_
  rw [h5]
  refine (extractLsb'_append_add _ _ _ n).trans ?_
  exact extractLsb'_append_add _ _ i n

theorem record_faultAddr : (ch.record c ticks).extractLsb' 128 64 =
    if ch.status == .faultUnresolved then ch.fault.addr.setWidth 64 else 0#64 :=
  (record_high ch c ticks 0 64).trans BitVec.extractLsb'_append_eq_right

theorem record_cause : (ch.record c ticks).extractLsb' 192 8 =
    if ch.status == .faultUnresolved then ch.fault.cause.code.setWidth 8 else 0#8 :=
  (record_high ch c ticks 64 8).trans <| (extractLsb'_append_add _ _ 0 8).trans BitVec.extractLsb'_append_eq_right

theorem record_channel : (ch.record c ticks).extractLsb' 200 8 = BitVec.ofNat 8 c.val :=
  (record_high ch c ticks 72 8).trans <| (extractLsb'_append_add _ _ 8 8).trans <|
    (extractLsb'_append_add _ _ 0 8).trans BitVec.extractLsb'_append_eq_right

theorem record_reserved : (ch.record c ticks).extractLsb' 208 16 = 0#16 :=
  (record_high ch c ticks 80 16).trans <| (extractLsb'_append_add _ _ 16 16).trans <|
    (extractLsb'_append_add _ _ 8 16).trans <| (extractLsb'_append_add _ _ 0 16).trans BitVec.extractLsb'_append_eq_right

theorem record_ticks : (ch.record c ticks).extractLsb' 224 32 = ticks :=
  (record_high ch c ticks 96 32).trans <| (extractLsb'_append_add _ _ 32 32).trans <|
    (extractLsb'_append_add _ _ 24 32).trans <| (extractLsb'_append_add _ _ 16 32).trans <|
    (extractLsb'_append_add _ _ 0 32).trans (BitVec.extractLsb'_eq_self)

end

theorem recordFlags_bits (ch : Channel) :
    ch.recordFlags.getLsbD 0 = ch.lap ∧ ch.recordFlags.getLsbD 1 = ch.progress.flags.inexact ∧
    ch.recordFlags.getLsbD 2 = ch.progress.flags.saturated ∧ ch.recordFlags.getLsbD 3 = ch.progress.flags.wrapped ∧
    ch.recordFlags.getLsbD 4 = (ch.order.map ordEvent).getD false ∧ ch.recordFlags.getLsbD 5 = ch.progress.down ∧
    ch.recordFlags.getLsbD 6 = false ∧ ch.recordFlags.getLsbD 7 = false := by
  have key (d e w s i l : Bool) (v : BitVec 8) (hv : v = 0#2 ++ bit d ++ bit e ++ bit w ++ bit s ++ bit i ++ bit l) :
      v.getLsbD 0 = l ∧ v.getLsbD 1 = i ∧ v.getLsbD 2 = s ∧ v.getLsbD 3 = w ∧ v.getLsbD 4 = e ∧ v.getLsbD 5 = d ∧
        v.getLsbD 6 = false ∧ v.getLsbD 7 = false := by
    subst hv
    revert d e w s i l
    decide
  exact key _ _ _ _ _ _ _ rfl

theorem failedValidation_iff {status : Status} :
    status.failedValidation = true ↔ status ∈ [.invalidKind, .reservedNonzero, .invalidField, .denied] := by
  cases status <;> decide

/-! ## Validation by the tables of fields (R65 to R67) -/

/-- A field of a walk descriptor as a field of its order. -/
theorem extractLsb'_walk (o : BitVec 512) (b : Nat) {i n : Nat} (h : i + n ≤ 128) :
    (o.extractLsb' b 128).extractLsb' i n = o.extractLsb' (b + i) n := extractLsb'_extract o b 128 h

theorem zeroAt_eq_false_iff (o : BitVec 512) (lo n : Nat) : zeroAt o lo n = false ↔ o.extractLsb' lo n ≠ 0 := by
  simp [zeroAt]

/-- A field is zero when its two parts are. -/
theorem zeroAt_add (o : BitVec 512) (lo m n : Nat) : zeroAt o lo (m + n) = (zeroAt o lo m && zeroAt o (lo + m) n) := by
  rw [Bool.eq_iff_iff, Bool.and_eq_true]
  simp only [zeroAt, beq_iff_eq]
  constructor
  · intro h
    have hbit (i : Nat) (hi : i < m + n) : o.getLsbD (lo + i) = false := by
      simpa [hi] using congrArg (fun v => v.getLsbD i) h
    constructor <;> ext i hi
    · simpa using hbit i (by omega)
    · simpa [Nat.add_assoc] using hbit (m + i) (by omega)
  · rintro ⟨hlo, hhi⟩
    ext i hi
    by_cases him : i < m
    · simpa [him] using congrArg (fun v => v.getLsbD i) hlo
    · have hin : i - m < n := by omega
      have hsum : lo + m + (i - m) = lo + i := by omega
      simpa [hin, hsum] using congrArg (fun v => v.getLsbD (i - m)) hhi

theorem toNat_two_bits (m : BitVec 2) : m.toNat = 0 ∨ m.toNat = 1 ∨ m.toNat = 2 ∨ m.toNat = 3 := by
  have := m.isLt
  omega

theorem eq_two_bits (m : BitVec 2) : m = 0#2 ∨ m = 1#2 ∨ m = 2#2 ∨ m = 3#2 := by
  revert m
  decide

/-- Some field of a list is not zero. -/
def anySet (o : BitVec 512) (fields : List (Nat × Nat)) : Bool := fields.any fun f => !zeroAt o f.1 f.2

theorem anySet_iff (o : BitVec 512) (fields : List (Nat × Nat)) :
    anySet o fields = true ↔ ∃ f ∈ fields, o.extractLsb' f.1 f.2 ≠ 0 := by
  simp [anySet, zeroAt_eq_false_iff]

theorem anySet_cons (o : BitVec 512) (lo n : Nat) (fields : List (Nat × Nat)) :
    anySet o ((lo, n) :: fields) = (!zeroAt o lo n || anySet o fields) := rfl

theorem anySet_nil (o : BitVec 512) : anySet o [] = false := rfl

theorem anySet_append (o : BitVec 512) (fs gs : List (Nat × Nat)) :
    anySet o (fs ++ gs) = (anySet o fs || anySet o gs) := List.any_append

/-- The reserved fields of a used walk, by its mode (R66). -/
theorem walkReservedBad_eq (o : BitVec 512) (b : Nat) :
    walkReservedBad (o.extractLsb' b 128) = anySet o (walkZeroFields o b) := by
  unfold walkReservedBad walkZeroFields walkMode walkPtrWidth walkParamB
  simp only [extractLsb'_walk o b (by decide : 46 + 2 ≤ 128), extractLsb'_walk o b (by decide : 56 + 8 ≤ 128),
    extractLsb'_walk o b (by decide : 40 + 2 ≤ 128), extractLsb'_walk o b (by decide : 44 + 2 ≤ 128),
    extractLsb'_walk o b (by decide : 64 + 32 ≤ 128), extractLsb'_walk o b (by decide : 96 + 32 ≤ 128),
    extractLsb'_walk o b (by decide : 112 + 16 ≤ 128), anySet_append, anySet_cons, anySet_nil]
  rcases toNat_two_bits (o.extractLsb' (b + 40) 2) with h | h | h | h <;> rw [h] <;>
    simp [zeroAt, anySet_cons, anySet_nil, Bool.or_assoc, bne]

/-- Check 2 by the tables of R65 and R66. -/
theorem reservedNonzero_eq (k : OrderKind) (o : BitVec 512) :
    reservedNonzero k o = anySet o (zeroFields k.code ++ (usedWalks k.code).flatMap (walkZeroFields o)) := by
  have hwalks : zeroAt o 128 256 = (zeroAt o 128 128 && zeroAt o 256 128) := zeroAt_add o 128 128 128
  have hround : zeroAt o 24 4 = (zeroAt o 24 2 && zeroAt o 26 1 && zeroAt o 27 1) := by
    rw [zeroAt_add o 24 2 2, zeroAt_add o 26 1 1, Bool.and_assoc]
  unfold reservedNonzero reservedBad
  cases k <;>
    simp [OrderKind.code, zeroFields, usedWalks, ordSrcWalk, ordDstWalk, walkReservedBad_eq, hwalks, hround,
      anySet_append, anySet_cons, anySet_nil, Bool.or_assoc, Bool.or_comm, Bool.or_left_comm]

theorem reservedNonzero_iff {o : BitVec 512} {k : OrderKind} (hk : orderKind o = some k) :
    reservedNonzero k o = true ↔ ZeroFieldSet o := by
  unfold ZeroFieldSet
  rw [reservedNonzero_eq, anySet_iff, (orderKind_iff o k).mp hk]

/-- The auto conditions of R67, field by field. -/
theorem autoConditions_iff {o : BitVec 512} {k : OrderKind} (hk : orderKind o = some k) :
    autoConditions k o = true ↔ AutoConditions o := by
  have hmove : k = .move ↔ o.extractLsb' 0 8 = 1#8 := by
    rw [← BitVec.toNat_inj, (orderKind_iff o k).mp hk]
    cases k <;> simp [OrderKind.code]
  have hsize (a b : Nat) : 2 ^ a = 2 ^ b ↔ a = b := Nat.pow_right_inj (by decide)
  unfold autoConditions AutoConditions walkAuto walkMode walkDir walkConfine ordSrcWalk ordDstWalk fmtSize ordSrcFmt
    ordDstFmt
  simp only [Bool.and_eq_true, beq_iff_eq, extractLsb'_walk o _ (by decide : 40 + 2 ≤ 128),
    extractLsb'_walk o _ (by decide : 42 + 2 ≤ 128), extractLsb'_walk o _ (by decide : 48 + 8 ≤ 128), hsize, hmove,
    List.forall_mem_cons, List.not_mem_nil, false_implies, implies_true, and_true, and_assoc]
  rfl

theorem high_part_ne_zero_iff (x : BitVec 32) {k n : Nat} (h : k + n = 32) :
    x.extractLsb' k n ≠ 0 ↔ 2 ^ k ≤ x.toNat := by
  have hlt : x.toNat / 2 ^ k < 2 ^ n := by
    rw [Nat.div_lt_iff_lt_mul (Nat.two_pow_pos k), ← Nat.pow_add, Nat.add_comm, h]
    exact x.isLt
  rw [ne_eq, ← BitVec.toNat_inj, BitVec.extractLsb'_toNat, Nat.shiftRight_eq_div_pow, Nat.mod_eq_of_lt hlt]
  simp [Nat.div_eq_zero_iff]

/-- The pointer width and the plane of an INDEXED walk (R66). -/
theorem widthOrPlaneBad_iff (w : BitVec 128) :
    (walkPtrWidth w = 3#2 ∨ planeTooWide w = true) ↔
      walkPtrWidth w = 3#2 ∨ (walkPtrWidth w = 0#2 ∧ 2 ^ 24 ≤ (walkParamB w).toNat) ∨
        (walkPtrWidth w = 1#2 ∧ 2 ^ 8 ≤ (walkParamB w).toNat) ∨ (walkPtrWidth w = 2#2 ∧ (walkParamB w).toNat ≠ 0) := by
  have hzero : (walkParamB w).toNat ≠ 0 ↔ walkParamB w ≠ 0 := BitVec.toNat_ne_iff_ne (y := 0)
  rw [← high_part_ne_zero_iff _ (by decide : 24 + 8 = 32), ← high_part_ne_zero_iff _ (by decide : 8 + 24 = 32), hzero]
  unfold planeTooWide
  rcases eq_two_bits (walkPtrWidth w) with h | h | h | h <;> rw [h] <;> simp

/-- The INVALID_FIELD conditions of a used walk (R66). -/
theorem walkFieldBad_iff {o : BitVec 512} {auto : Bool} (hauto : auto = true ↔ AutoConditions o) (b : Nat) :
    walkFieldBad auto (o.extractLsb' b 128) = true ↔ WalkOutOfRange o b := by
  have hmode : walkMode (o.extractLsb' b 128) = o.extractLsb' (b + 40) 2 := extractLsb'_walk o b (by decide)
  have hdir : walkDir (o.extractLsb' b 128) = o.extractLsb' (b + 42) 2 := extractLsb'_walk o b (by decide)
  have hwidth : walkPtrWidth (o.extractLsb' b 128) = o.extractLsb' (b + 44) 2 := extractLsb'_walk o b (by decide)
  have hconfine : walkConfine (o.extractLsb' b 128) = o.extractLsb' (b + 48) 8 := extractLsb'_walk o b (by decide)
  have hplane : walkParamB (o.extractLsb' b 128) = o.extractLsb' (b + 96) 32 := extractLsb'_walk o b (by decide)
  have hrun : walkRun (o.extractLsb' b 128) = 0 ↔ o.extractLsb' (b + 96) 16 = 0#16 := by
    rw [walkRun, extractLsb'_walk o b (by decide), ← BitVec.toNat_inj]
    rfl
  have hindexed := widthOrPlaneBad_iff (o.extractLsb' b 128)
  rw [hwidth, hplane] at hindexed
  unfold walkFieldBad WalkOutOfRange
  simp only [hmode, hdir, hwidth, hconfine, ← hrun, ← hauto, ← hindexed]
  rcases eq_two_bits (o.extractLsb' (b + 40) 2) with hm | hm | hm | hm <;>
    rcases eq_two_bits (o.extractLsb' (b + 42) 2) with hd | hd | hd | hd <;>
    simp [hm, hd, Nat.lt_iff_add_one_le]

/-- Check 3 by R66 and R67. -/
theorem invalidField_iff {o : BitVec 512} {k : OrderKind} (hk : orderKind o = some k) :
    invalidField k o = true ↔ FieldOutOfRange o := by
  have hwalk := walkFieldBad_iff (autoConditions_iff hk)
  have hfmt (f : BitVec 4) : fmtIllegal f = true ↔ 8 ≤ f.toNat := decide_eq_true_iff
  have hscale : decide (ordScale o < -63 ∨ 63 < ordScale o) = true ↔
      (o.extractLsb' 96 8).toInt < -63 ∨ 63 < (o.extractLsb' 96 8).toInt := decide_eq_true_iff
  have hcount : decide (Config.maxCount < ordCount o) = true ↔ 16777215 < (o.extractLsb' 32 32).toNat :=
    decide_eq_true_iff
  have hadd : ordAdd o = 0 ↔ o.extractLsb' 384 16 = 0#16 := Iff.rfl
  have htarget : decide (8 ≤ (ordTarget o).toNat) = true ↔ 8 ≤ (o.extractLsb' 384 8).toNat := decide_eq_true_iff
  unfold FieldOutOfRange invalidField
  simp only [(orderKind_iff o k).mp hk, ordSrcWalk, ordDstWalk, Bool.or_eq_true, Bool.and_eq_true, hwalk, hfmt, hscale,
    hcount, beq_iff_eq, hadd, htarget]
  cases k <;>
    simp [-BitVec.extractLsb'_toNat, OrderKind.code, usedWalks, OrderKind.usesSource,
      OrderKind.usesDest, OrderKind.movesData, ordSrcFmt, ordDstFmt, or_assoc, or_comm, or_left_comm]

/-- A KIND code from 1 to 6 names a kind (R57). -/
theorem exists_orderKind {o : BitVec 512} (h1 : 1 ≤ (o.extractLsb' 0 8).toNat) (h6 : (o.extractLsb' 0 8).toNat ≤ 6) :
    ∃ k, orderKind o = some k := by
  unfold orderKind ordKind
  interval_cases (o.extractLsb' 0 8).toNat <;> exact ⟨_, rfl⟩

theorem orderKind_none {o : BitVec 512} (h : ¬(1 ≤ (o.extractLsb' 0 8).toNat ∧ (o.extractLsb' 0 8).toNat ≤ 6)) :
    orderKind o = none := by
  cases hk : orderKind o with
  | none => rfl
  | some k =>
    refine absurd ?_ h
    rw [(orderKind_iff o k).mp hk]
    cases k <;> decide

section
variable {c : ChanNo} {mask : BitVec 8} {o : BitVec 512} {k : OrderKind} (hk : orderKind o = some k)
include hk

theorem validate_reservedNonzero (h : reservedNonzero k o = true) : validate c mask o = .reservedNonzero := by
  simp [validate, hk, h]

theorem validate_invalidField (h1 : reservedNonzero k o = false) (h2 : invalidField k o = true) :
    validate c mask o = .invalidField := by
  simp [validate, hk, h1, h2]

/-- Check 4 decides where the first three pass (R68). -/
theorem validate_passed (h1 : reservedNonzero k o = false) (h2 : invalidField k o = false) :
    validate c mask o = if denied c mask k o then .denied else .ok := by
  simp [validate, hk, h1, h2]

/-- What check 4 denies (R68); the target is legal by check 3. -/
theorem denied_iff (h2 : invalidField k o = false) :
    denied c mask k o = true ↔
      (o.extractLsb' 0 8).toNat = 5 ∧ (o.extractLsb' 384 8).toNat ≠ c.val ∧
        mask.getLsbD (o.extractLsb' 384 8).toNat = false := by
  have hwait : k = .wait ↔ (o.extractLsb' 0 8).toNat = 5 := by
    rw [(orderKind_iff o k).mp hk]
    cases k <;> simp [OrderKind.code]
  unfold denied
  simp only [Bool.and_eq_true, beq_iff_eq, bne_iff_ne, Bool.not_eq_true', hwait, and_assoc]
  refine and_congr_right fun h5 => ?_
  have hlt : (o.extractLsb' 384 8).toNat < 8 := by
    by_contra hge
    have : FieldOutOfRange o := Or.inr (.inr (.inr (.inr ⟨h5, by omega⟩)))
    rw [← invalidField_iff hk, h2] at this
    exact absurd this (by decide)
  have htarget : waitTarget o = ⟨(o.extractLsb' 384 8).toNat, hlt⟩ := waitTarget_eq rfl
  rw [htarget, ne_eq, Fin.ext_iff]

end

end Sys2Proof.Machine
end

section
/-! PROOFS. The completion record and validation (chapters 3, 4). -/

open Sys2Proof Sys2Proof.Machine Sys2Proof.Certificates

namespace Sys2Proof.Proofs

/-- Settles O35: the record is the joined words of R51, cut at each field's byte. -/
theorem completionRecordHasItsFields : Obligations.CompletionRecordHasItsFields := by
  intro ch c ticks o ho r
  obtain ⟨hlap, hinexact, hsaturated, hwrapped, hevent, hdown, h6, h7⟩ := recordFlags_bits ch
  have hbit (i : Nat) (hi : i < 8) : r.getLsbD (40 + i) = ch.recordFlags.getLsbD i := by
    rw [← record_flags ch c ticks]
    simp [r, hi]
  have hcause := record_cause ch c ticks
  have haddr := record_faultAddr ch c ticks
  have hresult := record_result ch c ticks
  refine ⟨?_, ⟨record_status ch c ticks, by decide⟩, ⟨?_, ?_, ?_, ?_, ?_, ?_, ?_, ?_⟩, record_sqHead ch c ticks,
    record_count ch c ticks, fun h => ?_, fun h => ?_, record_channel ch c ticks, record_reserved ch c ticks,
    record_ticks ch c ticks, fun h => ?_, fun h hk => ?_, fun h hk => ?_⟩
  · rw [record_tag, ho]
    rfl
  · rw [hbit 0 (by decide), hlap]
  · rw [hbit 1 (by decide), hinexact]
  · rw [hbit 2 (by decide), hsaturated]
  · rw [hbit 3 (by decide), hwrapped]
  · rw [hbit 4 (by decide), hevent, ho]
    rfl
  · rw [hbit 5 (by decide), hdown]
  · rw [hbit 6 (by decide), h6]
  · rw [hbit 7 (by decide), h7]
  · exact ⟨haddr.trans (by simp [h]), hcause.trans (by simp [h])⟩
  · exact ⟨haddr.trans (by simp [h]), hcause.trans (by simp [h])⟩
  all_goals
    refine hresult.trans ?_
    unfold Channel.recordResult
  · rw [if_pos (failedValidation_iff.mpr h)]
    rfl
  · rw [if_neg (mt failedValidation_iff.mp h), if_pos (by rw [ho]; exact congrArg some hk)]
    rfl
  · rw [if_neg (mt failedValidation_iff.mp h), if_neg (by rw [ho]; exact fun he => hk (Option.some.inj he))]

/-- Settles O36: check by check, each against the table of fields it stands for. -/
theorem validationTakesTheFirstFailingCheck : Obligations.ValidationTakesTheFirstFailingCheck := by
  refine ⟨fun c mask o => ⟨fun h => ?_, fun h1 h6 h => ?_, fun k hk => ⟨reservedNonzero_iff hk, invalidField_iff hk⟩,
    fun k hk => validate_reservedNonzero hk, fun k hk => validate_invalidField hk, fun k hk h1 h2 => ⟨?_, ?_⟩⟩, ?_⟩
  · simp [validate, orderKind_none h]
  · obtain ⟨k, hk⟩ := exists_orderKind h1 h6
    refine validate_reservedNonzero hk ((reservedNonzero_iff hk).mpr ⟨(10, 6), ?_, h⟩)
    simp [zeroFields]
  · intro h5 hc hmask
    rw [validate_passed hk h1 h2, if_pos ((denied_iff hk h2).mpr ⟨h5, hc, hmask⟩)]
  · intro h
    rw [validate_passed hk h1 h2, if_neg]
    rw [denied_iff hk h2]
    rintro ⟨h5, hc, hmask⟩
    rcases h with h | h | h
    · exact h h5
    · exact hc h
    · rw [hmask] at h
      cases h
  · intro s u c k x o hu ho hx hkind hlive hstate hinvalid
    subst hu
    have hagenda : s.settled.agenda = [] := rfl
    have hexec := exec_ringRead_invalid ho hx hkind hlive hstate hinvalid
    generalize s.settled = u at *
    rw [hexec, enterCompleting_setChan_record u c (by simp [hinvalid]), hagenda, List.append_nil]
    rfl

end Sys2Proof.Proofs
end

section
/-! SUPPORT. Offsets, placement and portions (chapter 5). -/

open Sys2Proof.Certificates

namespace Sys2Proof.Machine

/-! ## Offsets and placement (R78 to R83) -/

theorem walkSign_eq (w : BitVec 128) : walkSign w = if w.extractLsb' 42 2 = 1#2 then -1 else 1 := by
  simp only [walkSign, walkDir, beq_iff_eq]
  rfl

section
variable {w : BitVec 128} (e i : Nat)

theorem walkOffset_linear (h : w.extractLsb' 40 2 = 0#2) : walkOffset w e i = walkSign w * ((i * e : Nat) : Int) := by
  simp only [walkOffset, walkMode, h]
  rfl

theorem walkOffset_strided (h : w.extractLsb' 40 2 = 1#2) : walkOffset w e i = (i : Int) * walkParamA w := by
  simp only [walkOffset, walkMode, h]
  rfl

theorem walkOffset_blocked (h : w.extractLsb' 40 2 = 2#2) :
    walkOffset w e i = ((i / walkRun w : Nat) : Int) * walkParamA w + ((i % walkRun w * e : Nat) : Int) := by
  simp only [walkOffset, walkMode, h]
  rfl

theorem walkOffset_indexed (h : w.extractLsb' 40 2 = 3#2) :
    walkOffset w e i = walkSign w * ((i * walkPtrBytes w : Nat) : Int) := by
  simp only [walkOffset, walkMode, h]
  rfl

theorem placedAddress_unconfined (h : walkConfine w = 0#8) :
    placedAddress w e i = ((walkBase w).toNat : Int) + walkOffset w e i := by
  simp [placedAddress, h]

end

/-- An address wrapped within an aligned window of a positive size lies in it and is congruent to the address itself. -/
theorem wrapped_in_window (base win : Nat) (offset : Int) (hwin : 0 < win) :
    let placed : Int := ((base - base % win : Nat) : Int) + (((base % win : Nat) : Int) + offset) % (win : Nat)
    (base : Int) - (base : Int) % win ≤ placed ∧ placed ≤ (base : Int) - (base : Int) % win + win - 1 ∧
      (placed - ((base : Int) + offset)) % win = 0 := by
  intro placed
  have hpos : (0 : Int) < win := by exact_mod_cast hwin
  have hstart : ((base - base % win : Nat) : Int) = (base : Int) - (base : Int) % win := by
    rw [Nat.cast_sub (Nat.mod_le base win)]
    rfl
  have hplaced : placed = (base : Int) - (base : Int) % win + ((base : Int) % win + offset) % win := by
    simp only [placed, hstart]
    rfl
  have hlow := Int.emod_nonneg ((base : Int) % win + offset) hpos.ne'
  have hhigh := Int.emod_lt_of_pos ((base : Int) % win + offset) hpos
  refine ⟨by omega, by omega, ?_⟩
  rw [hplaced, Int.emod_def ((base : Int) % win + offset)]
  refine Int.emod_eq_zero_of_dvd ⟨-(((base : Int) % win + offset) / win), ?_⟩
  ring

theorem placedAddress_confined {w : BitVec 128} (e i : Nat) (h : walkConfine w ≠ 0#8) :
    placedAddress w e i =
      (((walkBase w).toNat - (walkBase w).toNat % 2 ^ confineExp (walkConfine w).toNat : Nat) : Int) +
        ((((walkBase w).toNat % 2 ^ confineExp (walkConfine w).toNat : Nat) : Int) + walkOffset w e i) %
          ((2 ^ confineExp (walkConfine w).toNat : Nat) : Int) := by
  simp only [placedAddress]
  rw [if_neg (by simpa using h)]

/-! ## Portions (R88) -/

/-- An item that fits in its page is one portion. -/
theorem portionsOf_one {a size : Nat} (h : a % 4096 + size ≤ 4096) :
    portionsOf a size = [{ eva := BitVec.ofNat 40 a, off := 0, len := size }] :=
  if_pos (by omega)

/-- An item that crosses a page boundary is two portions. -/
theorem portionsOf_two {a size : Nat} (h : 4096 < a % 4096 + size) :
    portionsOf a size =
      [{ eva := BitVec.ofNat 40 a, off := 0, len := 4096 - a % 4096 },
       { eva := BitVec.ofNat 40 (a + (4096 - a % 4096)), off := 4096 - a % 4096, len := size - (4096 - a % 4096) }] :=
  if_neg (by omega)

end Sys2Proof.Machine
end

section
/-! PROOFS. Addresses and portions (chapter 5). -/

open Sys2Proof Sys2Proof.Machine Sys2Proof.Certificates

namespace Sys2Proof.Proofs

/-- Settles O50: the offsets by mode, the wrap within the window, and the two shapes of an item's portions. -/
theorem addressesStayInTheirWindowAndPortionsInTheirPage :
    Obligations.AddressesStayInTheirWindowAndPortionsInTheirPage := by
  refine ⟨fun w e i => ⟨⟨fun h => ?_, fun h => walkOffset_strided e i h, fun h => walkOffset_blocked e i h,
    fun j hj h hwidth => ?_⟩, fun h => placedAddress_unconfined e i h, fun j hj h => ?_⟩, fun a size h1 h8 hspace => ?_⟩
  · rw [walkOffset_linear e i h, walkSign_eq]
  · have hbytes : walkPtrBytes w = j.2 := by
      have hw : walkPtrWidth w = j.1 := hwidth
      rw [walkPtrBytes, hw]
      exact (by decide : ∀ j ∈ [(0#2, 2), (1#2, 4), (2#2, 8)], 2 * 2 ^ j.1.toNat = j.2) j hj
    rw [walkOffset_indexed e i h, walkSign_eq, hbytes]
  · have hexp : walkConfine w ≠ 0#8 ∧ confineExp (walkConfine w).toNat = j.2 := by
      rw [h]
      exact (by decide : ∀ j ∈ [(1, 8), (2, 12), (3, 16), (4, 20), (5, 24)],
        BitVec.ofNat 8 j.1 ≠ 0#8 ∧ confineExp (BitVec.ofNat 8 j.1).toNat = j.2) j hj
    rw [placedAddress_confined e i hexp.1, hexp.2]
    exact_mod_cast wrapped_in_window (walkBase w).toNat (2 ^ j.2) (walkOffset w e i) (Nat.two_pow_pos _)
  · have hstart : (BitVec.ofNat 40 a).toNat = a := Nat.mod_eq_of_lt (by omega)
    rcases Nat.lt_or_ge 4096 (a % 4096 + size) with hcross | hfits
    · have hsecond : (BitVec.ofNat 40 (a + (4096 - a % 4096))).toNat = a + (4096 - a % 4096) :=
        Nat.mod_eq_of_lt (by omega)
      have hpage : (a + (4096 - a % 4096)) % 4096 = 0 := by
        have hsum : a + (4096 - a % 4096) = 4096 * (a / 4096 + 1) := by omega
        rw [hsum, Nat.mul_mod_right]
      rw [portionsOf_two hcross]
      refine ⟨?_, ?_, ?_, rfl, ?_⟩
      · have hsum : 4096 - a % 4096 + (size - (4096 - a % 4096) + 0) = size := by omega
        exact hsum
      · simp only [List.forall_mem_cons, List.not_mem_nil, false_implies, implies_true, and_true, true_and, hstart, hsecond, hpage]
        omega
      · rw [if_neg (by omega)]
        rfl
      · intro p q hpq
        cases hpq
        rfl
    · rw [portionsOf_one hfits]
      refine ⟨by simp, ?_, ?_, rfl, ?_⟩
      · simp only [List.forall_mem_cons, List.not_mem_nil, false_implies, implies_true, and_true, hstart]
        omega
      · rw [if_pos (by omega)]
        rfl
      · intro p q hpq
        cases hpq

end Sys2Proof.Proofs
end

section
/-! SUPPORT. The Lane Scheduler's choice (R113 to R115), and how an order leaves its lane (R121, R122, R124). -/

open Sys2Proof.Certificates

namespace Sys2Proof.Machine

/-! ## The order of the round-robin pointer and the effective classes (R114) -/

/-- How far behind the round-robin pointer a channel stands. -/
def behindPointer (p c : ChanNo) : Nat := (c.val + 7 - p.val) % 8

theorem mem_roundRobinOrder (p c : ChanNo) : c ∈ roundRobinOrder p := by
  revert p c
  decide

theorem roundRobinOrder_sorted (p : ChanNo) : (roundRobinOrder p).Pairwise fun c d => behindPointer p c ≤ behindPointer p d := by
  revert p
  decide

/-- The first of a sorted list that meets a condition stands before every other that meets it. -/
theorem le_of_find?_sorted {α : Type} {f : α → Nat} {p : α → Bool} {as : List α} (h : as.Pairwise fun a b => f a ≤ f b)
    {a b : α} (ha : as.find? p = some a) (hb : b ∈ as) (hp : p b = true) : f a ≤ f b := by
  induction as with
  | nil => cases hb
  | cons x rest ih =>
    obtain ⟨hx, hrest⟩ := List.pairwise_cons.mp h
    rw [List.find?_cons] at ha
    cases hpx : p x with
    | true =>
      rw [hpx] at ha
      cases ha
      rcases List.mem_cons.mp hb with rfl | hb
      · exact Nat.le_refl _
      · exact hx b hb
    | false =>
      rw [hpx] at ha
      rcases List.mem_cons.mp hb with rfl | hb
      · rw [hp] at hpx
        cases hpx
      · exact ih hrest ha hb

/-- A maximum folded over a list is at least what each element that counts contributes. -/
theorem le_foldl_max {α : Type} (q : α → Bool) (f : α → Nat) (as : List α) (m : Nat) :
    m ≤ as.foldl (fun m a => if q a then max m (f a) else m) m ∧
      ∀ a ∈ as, q a = true → f a ≤ as.foldl (fun m a => if q a then max m (f a) else m) m := by
  induction as generalizing m with
  | nil => exact ⟨Nat.le_refl _, fun a ha => by cases ha⟩
  | cons x rest ih =>
    have hstep : m ≤ (if q x then max m (f x) else m) := by
      split
      · exact Nat.le_max_left _ _
      · exact Nat.le_refl _
    obtain ⟨hm, hrest⟩ := ih (if q x then max m (f x) else m)
    refine ⟨hstep.trans hm, fun a ha hq => ?_⟩
    rcases List.mem_cons.mp ha with rfl | ha
    · refine Nat.le_trans ?_ hm
      rw [if_pos hq]
      exact Nat.le_max_right _ _
    · exact hrest a ha hq

theorem effectiveClass_le_topClass {s : State} {c : ChanNo} (h : (s.chan c).state = .queued) :
    s.effectiveClass c ≤ s.topClass :=
  (le_foldl_max s.isQueued s.effectiveClass allChannels 0).2 c (mem_allChannels c) (by simp [State.isQueued, h])

/-- The winner of a grant decision is of the highest effective class, and the first such after the pointer (R114). -/
theorem grantWinner_first {s : State} {c d : ChanNo} (h : s.grantWinner = some c) (hd : (s.chan d).state = .queued) :
    s.effectiveClass d ≤ s.effectiveClass c ∧
      (s.effectiveClass d = s.effectiveClass c → behindPointer s.roundRobin c ≤ behindPointer s.roundRobin d) := by
  have hc := List.find?_some h
  simp only [State.isQueued, Bool.and_eq_true, beq_iff_eq] at hc
  rw [hc.2]
  refine ⟨effectiveClass_le_topClass hd, fun heq => ?_⟩
  exact le_of_find?_sorted (roundRobinOrder_sorted _) h (mem_roundRobinOrder _ d) (by simp [State.isQueued, hd, heq])

/-- The lane of a grant decision is the lowest-numbered FREE lane (R113). -/
theorem not_free_of_lt_grantLane {s : State} {l m : LaneNo} (h : s.grantLane = some l) (hm : m < l) :
    (s.lane m).state ≠ .free := by
  intro hfree
  have hle := le_of_find?_sorted (f := Fin.val) (by decide : allLanes.Pairwise fun a b => a.val ≤ b.val) h
    (mem_allLanes m) (by simp [hfree])
  exact absurd hle (Nat.not_le.mpr hm)

theorem grant_of_grantDue {s : State} (h : s.grantDue = true) :
    ∃ c l, s.grantWinner = some c ∧ s.grantLane = some l ∧ s.grantStep = s.grant c l := by
  have hdue := h
  simp only [State.grantDue, Bool.and_eq_true, Option.isSome_iff_exists] at h
  obtain ⟨⟨-, l, hl⟩, c, hc⟩ := h
  refine ⟨c, l, hc, hl, ?_⟩
  rw [State.grantStep, if_pos hdue, hc, hl]

theorem passOver_counted (st : ChState) (n : BitVec 8) :
    (if st = .queued then satInc n else n) = if st = .queued ∧ n ≠ 255#8 then n + 1#8 else n := by
  by_cases h : st = .queued <;> by_cases hn : n = 255#8 <;> simp [h, hn, satInc_eq]

/-! ## An order handed back (R111, R112, R121, R122, R124) -/

theorem releaseLane_owed (s : State) (l : LaneNo) :
    s.releaseLane l = { s.setLane l (releasedLane s l) with agenda := grantOwed s l ++ s.agenda } := by
  have howed : grantOwed s l ++ s.agenda =
      if s.power = .run ∧ s.laneEnable.getLsbD l.val then .grants :: s.agenda else s.agenda := by
    unfold grantOwed
    split <;> rfl
  rw [releaseLane_eq, howed]
  rfl

/-- A lane released with its grant decision owed. -/
def State.released (s : State) (l : LaneNo) : State :=
  { s.setLane l (releasedLane s l) with agenda := grantOwed s l ++ s.agenda }

/-- The channel and the lane once the order has gone back, before the channel goes on. -/
theorem handedBack_eq (s : State) (l : LaneNo) (c : ChanNo) :
    (s.returnProgress l c).releaseLane l =
      (s.released l).setChan c { s.chan c with progress := (s.lane l).progress } :=
  releaseLane_owed (s.returnProgress l c) l

section
variable {s : State} {l : LaneNo} {c : ChanNo} {o : BitVec 512} (horder : (s.chan c).order = some o)
include horder

/-- An order handed back for a status that writes a record. -/
theorem handedBack_record {st : Status} (h : st ≠ .ok ∨ ordQuiet o = false) :
    ((s.returnProgress l c).releaseLane l).enterCompleting c st 0 =
      { (s.setLane l (releasedLane s l)).setChan c
          (completingChannel { s.chan c with progress := (s.lane l).progress } st 0#32) with
        agenda := recordOwed s c ++ grantOwed s l ++ s.agenda } := by
  have hrecord : (st == .ok && ((s.chan c).order.map fun o => o.getLsbD 8).getD false) = false := by
    rw [horder]
    rcases h with h | h
    · simp [h]
    · exact (congrArg (st == .ok && ·) h).trans (Bool.and_false _)
  rw [handedBack_eq, enterCompleting_setChan_record _ c (by exact hrecord), List.append_assoc]
  rfl

/-- A quiet order handed back with status OK. -/
theorem handedBack_quiet (ho : s.operating = true) (h : ordQuiet o = true) :
    ((s.returnProgress l c).releaseLane l).enterCompleting c .ok 0 =
      { (s.setLane l (releasedLane s l)).setChan c
          (finishedChannel (completingChannel { s.chan c with progress := (s.lane l).progress } .ok 0#32) .ok) with
        agenda := grantOwed s l ++ s.agenda } := by
  have hquiet : ((Status.ok == .ok) && ((s.chan c).order.map fun o => o.getLsbD 8).getD false) = true := by
    rw [horder]
    exact h
  rw [handedBack_eq, enterCompleting_setChan_quiet (by exact ho) c (by exact hquiet)]
  rfl

omit horder in
/-- An order handed back with a fault. -/
theorem handedBack_faulted (ho : s.operating = true) (f : FaultInfo) :
    ((s.returnProgress l c).releaseLane l).enterFaulted c f =
      { (s.setLane l (releasedLane s l)).setChan c
          (faultedChannel { s.chan c with progress := (s.lane l).progress } f) with
        agenda := grantOwed s l ++ s.agenda } := by
  rw [handedBack_eq, enterFaulted_eq (by exact ho), chan_setChan_same, setChan_setChan]
  rfl

end

/-- A step taken at its moment. -/
theorem exec_of_due {s t : State} {d : Due} (hdue : s.nextDue = some d) (h : s.take d = t) : s.serialiseDue d = t :=
  (serialiseDue_due hdue).trans h

end Sys2Proof.Machine
end

section
/-! PROOFS. Grants, and how orders leave their lanes (chapter 7). -/

open Sys2Proof Sys2Proof.Machine Sys2Proof.Certificates

namespace Sys2Proof.Proofs

/-- Settles O42: the winner and the lane by the searches that find them, then the grant in full. -/
theorem grantFollowsClassAndRoundRobin : Obligations.GrantFollowsClassAndRoundRobin := by
  intro s hdue cls distance
  obtain ⟨c, l, hc, hl, hgrant⟩ := grant_of_grantDue (callsFor_of_nextDue hdue)
  refine ⟨s.grant c l, c, l, congrArg Host.Outcome.next (exec_of_due hdue hgrant), queued_of_grantWinner hc,
    free_of_grantLane hl, fun m hm => not_free_of_lt_grantLane hl hm, fun d hd => grantWinner_first hc hd,
    grant_frame s c l, grant_chan_winner s c l, grant_lane_same s c l, fun m hm => grant_lane_ne s c hm, fun d hd => ?_⟩
  rw [grant_chan, beq_false_of_ne hd, passedOver_lost]
  exact congrArg (fun v => { s.chan d with passOver := v }) (passOver_counted _ _)

/-- Settles O46: the order's end, the hand-over and the drain, each from the channel and the lane once the order has gone
back. -/
theorem ordersLeaveTheirLanes : Obligations.OrdersLeaveTheirLanes := by
  intro s l c o howner horder ch released owed
  refine ⟨fun st hdue hend hst => ?_, fun hdue hend hquiet ho => ?_, fun f hdue hend ho => ?_,
    fun hdue hpower hstate => ?_, fun hdue h => ?_⟩ <;>
    refine congrArg Host.Outcome.next (exec_of_due hdue ?_)
  · rw [State.take, State.orderEndStep, hend]
    simp only [State.laneOrderEnd, howner]
    exact handedBack_record horder hst
  · rw [State.take, State.orderEndStep, hend]
    simp only [State.laneOrderEnd, howner]
    exact handedBack_quiet horder ho hquiet
  · rw [State.take, State.handoverStep, hend]
    simp only [State.laneHandover, howner]
    exact handedBack_faulted ho f
  · have hend : (s.lane l).ending = some .drain := callsFor_of_nextDue hdue
    rw [State.take, State.drainEndStep, if_pos hend]
    simp only [State.laneDrainEnd, howner]
    rw [if_pos ⟨hpower, hstate⟩]
    exact handedBack_record horder (.inl (by decide))
  · have hend : (s.lane l).ending = some .drain := callsFor_of_nextDue hdue
    rw [State.take, State.drainEndStep, if_pos hend]
    simp only [State.laneDrainEnd, howner]
    rw [if_neg (fun hboth => h.elim hboth.1 fun h => h hboth.2)]
    exact releaseLane_owed s l

end Sys2Proof.Proofs
end

section
/-! SUPPORT. The steps of a lane one by one, and what all it takes at once keeps (R90, R117). -/

open Sys2Proof.Certificates

namespace Sys2Proof.Machine

/-! ## When a lane may step (R117, R122) -/

theorem mayStep_iff (x : Lane) :
    x.mayStep = true ↔ (x.state = .reading ∨ x.state = .writing) ∧ x.place < x.slots.length ∧
      ∀ f, x.failure = some f → x.pos < f.pos := by
  unfold Lane.mayStep
  simp only [Bool.and_eq_true, Bool.or_eq_true, beq_iff_eq, decide_eq_true_eq, and_assoc]
  cases x.failure <;> simp

/-- A lane past the last position of its beat takes no step. -/
theorem mayStep_done {x : Lane} (h : x.slots.length ≤ x.place) : x.mayStep = false := by
  rw [Bool.eq_false_iff, ne_eq, mayStep_iff]
  rintro ⟨-, hplace, -⟩
  exact absurd hplace (Nat.not_lt.mpr h)

/-- A lane at or past the failure it settles takes no step. -/
theorem mayStep_failed {x : Lane} {f : Failure} (h : x.failure = some f) (hpos : f.pos ≤ x.pos) : x.mayStep = false := by
  rw [Bool.eq_false_iff, ne_eq, mayStep_iff]
  rintro ⟨-, -, hbelow⟩
  exact absurd (hbelow f h) (Nat.not_lt.mpr hpos)

theorem mayStep_draining {x : Lane} (h : x.state = .draining) : x.mayStep = false := by
  simp [Lane.mayStep, h]

/-! ## One step (R90, R117) -/

section
variable {s : State} {l : LaneNo}

theorem laneStep_stuck (h : (s.lane l).mayStep = false) : s.laneStep l = none := by
  simp [State.laneStep, h]

theorem pump_stuck (h : (s.lane l).mayStep = false) : s.pump l = s := pump_of_none (laneStep_stuck h)

variable (h : (s.lane l).mayStep = true)
include h

theorem laneStep_translated {k : AccessKind} {done : List HeldPortion} (hc : (s.lane l).cursor = .translate k done []) :
    s.laneStep l = some (s.setLane l { s.lane l with cursor := .issue k done }) := by
  simp [State.laneStep, h, hc]

/-- A lane whose translation request is outstanding waits. -/
theorem laneStep_requesting {k : AccessKind} {done : List HeldPortion} {p : Portion} {todo : List Portion}
    (hc : (s.lane l).cursor = .translate k done (p :: todo)) (hr : (s.lane l).request = true) : s.laneStep l = none := by
  simp [State.laneStep, h, hc, hr]

/-- A portion answered in the step. -/
theorem laneStep_translates {k : AccessKind} {done : List HeldPortion} {p : Portion} {todo : List Portion}
    (hc : (s.lane l).cursor = .translate k done (p :: todo)) (hr : (s.lane l).request = false) {t : State} {pa : Pa}
    (ht : s.requestTranslation (s.lane l).sid
      { lane := l, write := k.isWrite, eva := p.eva, trust := (s.lane l).trust, kind := k } = (t, some pa)) :
    s.laneStep l =
      some (t.setLane l { s.lane l with cursor := .translate k (done ++ [{ portion := p, pa := pa }]) todo }) := by
  simp [State.laneStep, h, hc, hr, ht]

/-- A portion that waits for a walk. -/
theorem laneStep_requests {k : AccessKind} {done : List HeldPortion} {p : Portion} {todo : List Portion}
    (hc : (s.lane l).cursor = .translate k done (p :: todo)) (hr : (s.lane l).request = false) {t : State}
    (ht : s.requestTranslation (s.lane l).sid
      { lane := l, write := k.isWrite, eva := p.eva, trust := (s.lane l).trust, kind := k } = (t, none)) :
    s.laneStep l = some (t.setLane l { s.lane l with request := true }) := by
  simp [State.laneStep, h, hc, hr, ht]

theorem laneStep_issues {k : AccessKind} {q : HeldPortion} {rest : List HeldPortion}
    (hc : (s.lane l).cursor = .issue k (q :: rest)) (hm : (s.lane l).mayIssue k q = true) :
    s.laneStep l = some (s.setLane l { s.lane l with
      cursor := .issue k rest, txns := (s.lane l).txns ++ [(s.lane l).transaction s.busTimeout k q] }) := by
  simp [State.laneStep, h, hc, hm]

theorem laneStep_blocked {k : AccessKind} {q : HeldPortion} {rest : List HeldPortion}
    (hc : (s.lane l).cursor = .issue k (q :: rest)) (hm : (s.lane l).mayIssue k q = false) : s.laneStep l = none := by
  simp [State.laneStep, h, hc, hm]

theorem laneStep_follows (hc : (s.lane l).cursor = .pointer) (hp : (s.lane l).ptrLeft = 0) :
    s.laneStep l = some (s.setLane l (s.lane l).followPointer) := by
  simp [State.laneStep, h, hc, hp]

end

/-! ## What every step keeps -/

/-- What the beat buffer holds for each position of the beat. -/
def Lane.contents (x : Lane) : List (Option Shaped) := x.slots.map (·.shaped)

theorem modSlot_contents {x : Lane} {p : Nat} {f : BeatSlot → BeatSlot} (h : ∀ b, (f b).shaped = b.shaped) :
    (x.modSlot p f).contents = x.contents := by
  unfold Lane.contents Lane.modSlot
  refine List.ext_getElem? fun j => ?_
  simp only [List.getElem?_map, List.getElem?_modify]
  cases x.slots[j]? with
  | none => rfl
  | some b =>
    split
    · exact congrArg some (h b)
    · rfl

@[simp] theorem fail_slots (x : Lane) (f : Failure) : (x.fail f).slots = x.slots := by
  unfold Lane.fail
  repeat' split
  all_goals rfl

@[simp] theorem formAccess_contents (x : Lane) (k : AccessKind) (a : Int) (size : Nat) :
    (x.formAccess k a size).contents = x.contents := by
  unfold Lane.formAccess
  split
  · change (x.expect k _).contents = _
    unfold Lane.expect
    split
    · exact modSlot_contents fun _ => rfl
    · exact modSlot_contents fun _ => rfl
    · rfl
  · exact congrArg (List.map (·.shaped)) (fail_slots x _)

/-- How a step of a lane leaves it: the beat buffer's content and the transactions issued before. -/
theorem laneStep_extends {s t : State} {l : LaneNo} (h : s.laneStep l = some t) :
    (t.lane l).contents = (s.lane l).contents ∧ (s.lane l).txns <+: (t.lane l).txns := by
  unfold State.laneStep at h
  dsimp only at h
  split at h
  · cases h
  · split at h
    · cases h
      rw [lane_setLane_same, Lane.beginPosition]
      split <;> simp
    · cases h
      simp [Lane.contents]
    · split at h
      · cases h
      · split at h <;> cases h <;> simp [Lane.contents]
    · cases h
      rw [lane_setLane_same, Lane.afterIssue]
      split <;> simp [Lane.contents]
    · split at h
      · cases h
        simp [Lane.contents]
      · cases h
    · split at h
      · cases h
        rw [lane_setLane_same, Lane.followPointer]
        simp
      · cases h

theorem pumpSteps_induct {P : State → Prop} {l : LaneNo} (h : ∀ s t, P s → s.laneStep l = some t → P t) (n : Nat) :
    ∀ s, P s → P (State.pumpSteps n l s) := by
  induction n with
  | zero => exact fun _ h => h
  | succ n ih =>
    intro s hs
    unfold State.pumpSteps
    split
    · exact hs
    · rename_i t ht
      exact ih t (h s t hs ht)

theorem pumpSteps_txns (n : Nat) (s : State) (l : LaneNo) :
    (s.lane l).txns <+: ((State.pumpSteps n l s).lane l).txns :=
  pumpSteps_induct (P := fun t => (s.lane l).txns <+: (t.lane l).txns)
    (fun _ _ hs ht => hs.trans (laneStep_extends ht).2) n s (List.prefix_refl _)

theorem pump_contents (s : State) (l : LaneNo) : ((s.pump l).lane l).contents = (s.lane l).contents :=
  pump_induct (P := fun t => (t.lane l).contents = (s.lane l).contents)
    (fun _ _ hs ht => (laneStep_extends ht).1.trans hs) s rfl

/-- All a lane does at once: every channel and every other lane as they are, its own job kept. -/
theorem pump_job (s : State) (l : LaneNo) :
    (s.pump l).channels = s.channels ∧ (∀ m, m ≠ l → (s.pump l).lane m = s.lane m) ∧
      (s.lane l).SameJob ((s.pump l).lane l) := by
  obtain ⟨k, q, w, a, x, h, -, hx⟩ := pump_frame s l
  rw [h]
  refine ⟨rfl, fun m hm => lane_setLane_ne s x hm, ?_⟩
  have hlane : ({ s.setLane l x with cache := k, walkQueue := q, walker := w, agenda := a } : State).lane l = x :=
    lane_setLane_same s l x
  rw [hlane]
  exact hx

/-! ## Steps in a row -/

theorem pumpSteps_succ {s t : State} {l : LaneNo} (h : s.laneStep l = some t) (n : Nat) :
    State.pumpSteps (n + 1) l s = State.pumpSteps n l t := by
  simp [State.pumpSteps, h]

theorem pumpSteps_stop {s : State} {l : LaneNo} (h : s.laneStep l = none) (n : Nat) : State.pumpSteps n l s = s := by
  cases n with
  | zero => rfl
  | succ n => simp [State.pumpSteps, h]

/-! ## The portions of an access issued (R117) -/

theorem mayIssue_iff (x : Lane) (k : AccessKind) (q : HeldPortion) :
    x.mayIssue k q = true ↔ x.txns.length < 8 ∧ ∀ t ∈ x.txns, k = .dstData ∨ t.kind = .dstData →
      q.pa.toNat + q.portion.len ≤ t.pa.toNat ∨ t.pa.toNat + t.portion.len ≤ q.pa.toNat := by
  unfold Lane.mayIssue rangesOverlap AccessKind.isWrite
  simp only [Bool.and_eq_true, decide_eq_true_eq, Bool.not_eq_true', List.any_eq_false, Bool.or_eq_true, beq_iff_eq,
    Config.laneTransactions]
  refine and_congr decide_eq_true_iff (forall₂_congr fun t _ => ?_)
  by_cases hw : k = .dstData ∨ t.kind = .dstData
  · simp only [hw, true_and, true_imp_iff]
    omega
  · simp [hw]

theorem transaction_eq (x : Lane) (timeout : BitVec 16) (k : AccessKind) (q : HeldPortion) :
    x.transaction timeout k q =
      { pos := x.beatStart + x.place, kind := k, portion := q.portion, pa := q.pa
        data := if k = .dstData then
            BitVec.ofNat 64 ((takenBytes x).toNat / 2 ^ (8 * q.portion.off) % 2 ^ (8 * q.portion.len))
          else 0#64
        timeout := timeout, age := 0, old := q.old } := by
  have hbytes : x.shapedBytes x.pos = takenBytes x := by
    unfold Lane.shapedBytes takenBytes Lane.pos
    rw [Nat.add_sub_cancel_left]
    cases x.slots[x.place]? <;> rfl
  unfold Lane.transaction AccessKind.isWrite portionBytes
  rw [hbytes]
  simp only [beq_iff_eq]
  rfl

/-- The transactions of an access depend on the lane only through its position and the bytes the buffer holds for it. -/
theorem issuesInOrder_congr {x y : Lane} (hpos : x.beatStart + x.place = y.beatStart + y.place)
    (hbytes : takenBytes x = takenBytes y) (timeout : BitVec 16) (k : AccessKind) (qs : List HeldPortion)
    (out final : List LaneTxn) : IssuesInOrder x timeout k qs out final ↔ IssuesInOrder y timeout k qs out final := by
  induction qs generalizing out with
  | nil => exact Iff.rfl
  | cons q rest ih =>
    unfold IssuesInOrder
    rw [hpos, hbytes, ih]

/-- A lane whose translated portions are ready issues them in order. -/
theorem issuesInOrder_pumpSteps {l : LaneNo} {k : AccessKind} (qs : List HeldPortion) (n : Nat) (s : State)
    (h : (s.lane l).mayStep = true) (hc : (s.lane l).cursor = .issue k qs) (hn : 8 ≤ (s.lane l).txns.length + n) :
    IssuesInOrder (s.lane l) s.busTimeout k qs (s.lane l).txns ((State.pumpSteps n l s).lane l).txns := by
  induction qs generalizing n s with
  | nil => exact pumpSteps_txns n s l
  | cons q rest ih =>
    unfold IssuesInOrder
    by_cases hm : (s.lane l).mayIssue k q = true
    · have hmay := (mayIssue_iff _ k q).mp hm
      rw [if_pos hmay]
      obtain ⟨n, rfl⟩ : ∃ m, n = m + 1 := ⟨n - 1, by omega⟩
      rw [pumpSteps_succ (laneStep_issues h hc hm), ← transaction_eq]
      generalize ht : s.setLane l { s.lane l with
        cursor := .issue k rest, txns := (s.lane l).txns ++ [(s.lane l).transaction s.busTimeout k q] } = t
      have hlane : t.lane l = { s.lane l with
          cursor := .issue k rest, txns := (s.lane l).txns ++ [(s.lane l).transaction s.busTimeout k q] } := by
        rw [← ht, lane_setLane_same]
      have htimeout : t.busTimeout = s.busTimeout := by rw [← ht]; rfl
      have hrest := ih n t (by rw [hlane]; exact h) (by rw [hlane]) (by
        rw [hlane]
        simp only [List.length_append, List.length_singleton]
        omega)
      rw [htimeout, hlane] at hrest
      exact (issuesInOrder_congr (y := s.lane l) (by rfl) (by rfl) _ _ _ _ _).mp hrest
    · rw [if_neg (mt (mayIssue_iff _ k q).mpr hm),
        pumpSteps_stop (laneStep_blocked h hc (Bool.eq_false_iff.mpr hm))]

end Sys2Proof.Machine
end

section
/-! SUPPORT. How a beat starts: its positions, its phase and, for a FILL, its ramp values (R105, R116, R118, R119). -/

open Sys2Proof.Certificates

namespace Sys2Proof.Machine

/-- The ramp value of element i of a FILL, by the fields of its order (R105). -/
def rampValue (o : BitVec 512) (i : Nat) : Nat :=
  ((o.extractLsb' 384 64).toNat + i * (o.extractLsb' 448 64).toNat) % 2 ^ (8 * fmtSize (ordDstFmt o))

theorem rampBytes_eq (o : BitVec 512) (i : Nat) :
    rampBytes o i = elementBytes (rampValue o i) (fmtSize (ordDstFmt o)) (o.getLsbD 28) := by
  have hv : rampValue o i < 256 ^ fmtSize (ordDstFmt o) := by
    rw [pow_fmtSize]
    exact Nat.mod_lt _ (Nat.two_pow_pos _)
  have hfits := pow_256_le (fmtSize_le (ordDstFmt o))
  unfold rampBytes
  change (if ordDstSwap o then swapBytes (BitVec.ofNat 64 (rampValue o i)) _ else BitVec.ofNat 64 (rampValue o i)) = _
  unfold ordDstSwap
  cases o.getLsbD 28 with
  | false => exact (elementBytes_of_lt hv).symm
  | true => rw [if_pos rfl, swapBytes_eq _ (fmtSize_le _), BitVec.toNat_ofNat, Nat.mod_eq_of_lt (hv.trans_le hfits)]

/-- The beat buffer of a FILL holds the ramp values of its positions, with no flag. -/
def Lane.HoldsRamp (x : Lane) : Prop := ∀ j, j < x.slots.length →
  (x.slots[j]?).map (·.shaped) = some (some
    { bytes := elementBytes (rampValue x.order (x.beatStart + j)) (fmtSize (ordDstFmt x.order)) (x.order.getLsbD 28)
      flags := { inexact := false, saturated := false, wrapped := false } })

theorem isFill_iff (o : BitVec 512) : orderKind o = some .fill ↔ (o.extractLsb' 0 8).toNat = 2 := orderKind_iff o .fill

theorem isMove_iff (o : BitVec 512) : orderKind o = some .move ↔ (o.extractLsb' 0 8).toNat = 1 := orderKind_iff o .move

theorem freshSlots_length (o : BitVec 512) (b : Nat) : (freshSlots o b).length = min 32 (ordCount o - b) := by
  unfold freshSlots
  split <;> simp [beatLength, Config.beatPositions]

theorem startBeat_holdsRamp {x : Lane} (h : orderKind x.order = some .fill) : x.startBeat.HoldsRamp := by
  intro j hj
  have hslots : x.startBeat.slots = (List.range (beatLength x.order x.progress.count)).map fun j =>
      { shaped := some { bytes := rampBytes x.order (x.progress.count + j), flags := {} } } := if_pos h
  rw [hslots, List.length_map, List.length_range] at hj
  rw [hslots, List.getElem?_map, List.getElem?_range hj, ← rampBytes_eq]
  rfl

/-- A lane that has started a beat of another's order and progress and then taken steps. -/
structure Lane.BeganBeat (x y : Lane) : Prop where
  order : y.order = x.order
  progress : y.progress = x.progress
  owner : y.owner = x.owner
  sid : y.sid = x.sid
  trust : y.trust = x.trust
  state : y.state = if (x.order.extractLsb' 0 8).toNat = 2 then .writing else .reading
  beatStart : y.beatStart = x.progress.count
  length : y.slots.length = min 32 (ordCount x.order - x.progress.count)
  ramp : (x.order.extractLsb' 0 8).toNat = 2 → y.HoldsRamp

theorem holdsRamp_of_contents {x y : Lane} (h : x.HoldsRamp) (hjob : x.SameJob y) (hcontents : y.contents = x.contents) :
    y.HoldsRamp := by
  obtain ⟨-, -, -, horder, -, -, -, hstart, hlength⟩ := hjob
  intro j hj
  have hshaped : (y.slots[j]?).map (·.shaped) = (x.slots[j]?).map (·.shaped) := by
    rw [← List.getElem?_map, ← List.getElem?_map]
    exact congrArg (·[j]?) hcontents
  rw [hshaped, horder, hstart]
  exact h j (hlength ▸ hj)

theorem beganBeat_of_pumped {x y : Lane} (hjob : x.startBeat.SameJob y) (hcontents : y.contents = x.startBeat.contents) :
    x.BeganBeat y := by
  have hramp (h : (x.order.extractLsb' 0 8).toNat = 2) : y.HoldsRamp :=
    holdsRamp_of_contents (startBeat_holdsRamp ((isFill_iff _).mpr h)) hjob hcontents
  obtain ⟨hstate, howner, -, horder, hsid, htrust, hprogress, hstart, hlength⟩ := hjob
  refine ⟨horder, hprogress, howner, hsid, htrust, ?_, hstart, hlength.trans (freshSlots_length _ _), hramp⟩
  rw [hstate]
  simp only [Lane.startBeat, isFill_iff]

/-- How a lane goes on at the end of a beat: a MOVE's read phase is followed by its write phase (R118, R119). -/
def Lane.nextBeat (x : Lane) : Lane :=
  if x.state = .reading ∧ orderKind x.order = some .move then x.startWritePhase else x.startBeat

theorem nextBeat_writes {x : Lane} (h : x.state = .reading ∧ (x.order.extractLsb' 0 8).toNat = 1) :
    x.nextBeat = x.startWritePhase := if_pos ⟨h.1, (isMove_iff _).mpr h.2⟩

theorem nextBeat_starts {x : Lane} (h : ¬(x.state = .reading ∧ (x.order.extractLsb' 0 8).toNat = 1)) :
    x.nextBeat = x.startBeat := if_neg fun hn => h ⟨hn.1, (isMove_iff _).mp hn.2⟩

/-- A lane updated and then let go on: every channel and every other lane as they are. -/
theorem modLane_pump (s : State) (l : LaneNo) (f : Lane → Lane) :
    ((s.modLane l f).pump l).channels = s.channels ∧ (∀ m, m ≠ l → ((s.modLane l f).pump l).lane m = s.lane m) ∧
      (f (s.lane l)).SameJob (((s.modLane l f).pump l).lane l) ∧
      (((s.modLane l f).pump l).lane l).contents = (f (s.lane l)).contents := by
  obtain ⟨hchannels, hothers, hjob⟩ := pump_job (s.modLane l f) l
  have hcontents := pump_contents (s.modLane l f) l
  rw [lane_modLane_same] at hjob hcontents
  exact ⟨hchannels, fun m hm => (hothers m hm).trans (lane_modLane_ne s f hm), hjob, hcontents⟩

end Sys2Proof.Machine
end

section
/-! PROOFS. Takeovers and beats (chapter 7). -/

open Sys2Proof Sys2Proof.Machine Sys2Proof.Certificates

namespace Sys2Proof.Proofs

/-- Settles O43: the lane updated for its beat, then what all its steps at once keep of it. -/
theorem beatsStartAtTheProgressCount : Obligations.BeatsStartAtTheProgressCount := by
  unfold Obligations.BeatsStartAtTheProgressCount
  intro holdsRamp
  refine ⟨fun s l c o hdue howner horder => ?_, fun s l hdue => ?_⟩
  · have hend : (s.lane l).ending = some .takeover := callsFor_of_nextDue hdue
    have htake : s.take (.takeover l) = (s.modLane l fun x => (x.takeOver (s.chan c)).startBeat).pump l := by
      rw [State.take, State.takeoverStep, if_pos hend, State.laneTakeover, howner]
    obtain ⟨hchannels, hothers, hjob, hcontents⟩ := modLane_pump s l fun x => (x.takeOver (s.chan c)).startBeat
    refine ⟨_, congrArg Host.Outcome.next (exec_of_due hdue htake), hchannels, hothers, ?_⟩
    have hbeat := beganBeat_of_pumped hjob hcontents
    generalize ((s.modLane l fun x => (x.takeOver (s.chan c)).startBeat).pump l).lane l = y at hbeat
    have htaken : ((s.lane l).takeOver (s.chan c)).order = o := by simp [Lane.takeOver, horder]
    obtain ⟨ho, hprogress, hown, hsid, htrust, hstate, hstart, hlength, hramp⟩ := hbeat
    rw [htaken] at ho hstate hlength hramp
    have hprogress' : y.progress = (s.chan c).progress := hprogress
    exact ⟨ho, hprogress', hsid, htrust, hown.trans howner, by rw [hstart, hprogress], by rw [hlength, hprogress], hstate, hramp⟩
  · have hend : (s.lane l).ending = some .beat := callsFor_of_nextDue hdue
    have htake : s.take (.beat l) = (s.modLane l Lane.nextBeat).pump l := by
      rw [State.take, State.beatStep, if_pos hend]
      rfl
    obtain ⟨hchannels, hothers, hjob, hcontents⟩ := modLane_pump s l Lane.nextBeat
    refine ⟨_, congrArg Host.Outcome.next (exec_of_due hdue htake), hchannels, hothers, ?_⟩
    generalize ((s.modLane l Lane.nextBeat).pump l).lane l = y at hjob hcontents
    by_cases hwrites : (s.lane l).state = .reading ∧ ((s.lane l).order.extractLsb' 0 8).toNat = 1
    · rw [nextBeat_writes hwrites] at hjob
      obtain ⟨hstate, howner, -, horder, -, -, hprogress, hstart, hlength⟩ := hjob
      exact ⟨horder, hprogress, howner, fun _ => ⟨hstate, hstart, hlength⟩, fun h => absurd hwrites h⟩
    · rw [nextBeat_starts hwrites] at hjob hcontents
      obtain ⟨horder, hprogress, howner, -, -, hstate, hstart, hlength, hramp⟩ := beganBeat_of_pumped hjob hcontents
      exact ⟨horder, hprogress, howner, fun h => absurd h hwrites, fun _ => ⟨hstate, hstart, hlength, hramp⟩⟩

end Sys2Proof.Proofs
end

section
/-! SUPPORT. Addresses from pointers, cache answers, and how a lane goes from an access to its transactions (R85, R86, R90,
R117, R127, R137). -/

open Sys2Proof.Certificates

namespace Sys2Proof.Machine

/-! ## Words cut from words -/

theorem toNat_extract_zero {w : Nat} (x : BitVec w) (n : Nat) : (x.extractLsb' 0 n).toNat = x.toNat % 2 ^ n := by
  simp

/-! ## The element address of a pointer (R85, R86) -/

/-- The element address, by the pointer width. -/
theorem pointerAddress_eq (w : BitVec 128) (v : BitVec 64) :
    pointerAddress w v =
      if walkPtrWidth w = 0#2 then
        ((w.extractLsb' 96 24).toNat : Int) * 2 ^ 16 + ((v.toNat % 2 ^ 16 : Nat) + (w.extractLsb' 64 32).toInt) % 2 ^ 16
      else if walkPtrWidth w = 1#2 then
        ((w.extractLsb' 96 8).toNat : Int) * 2 ^ 32 + ((v.toNat % 2 ^ 32 : Nat) + (w.extractLsb' 64 32).toInt) % 2 ^ 32
      else v.toInt + (w.extractLsb' 64 32).toInt := by
  have hshort : (walkParamB w).extractLsb' 0 24 = w.extractLsb' 96 24 := extractLsb'_extract w 96 32 (by decide)
  have hmedium : (walkParamB w).extractLsb' 0 8 = w.extractLsb' 96 8 := extractLsb'_extract w 96 32 (by decide)
  unfold pointerAddress walkParamA
  rw [hshort, hmedium, toNat_extract_zero, toNat_extract_zero]
  rcases eq_two_bits (walkPtrWidth w) with h | h | h | h <;> rw [h]
  · rw [if_pos rfl]
    push_cast
    rfl
  · rw [if_neg (by decide), if_pos rfl]
    push_cast
    rfl
  · rfl
  · rfl

theorem addressInRange_iff (a : Int) (size : Nat) : addressInRange a size = true ↔ 0 ≤ a ∧ a + size ≤ 2 ^ 40 :=
  decide_eq_true_iff

theorem portionsOf_head (a size : Nat) : ∃ p rest, portionsOf a size = p :: rest ∧ p.eva = BitVec.ofNat 40 a := by
  unfold portionsOf
  dsimp only
  split <;> exact ⟨_, _, rfl, rfl⟩

theorem portionsOf_length_le (a size : Nat) : (portionsOf a size).length ≤ 2 := by
  unfold portionsOf
  dsimp only
  split <;> simp

theorem ofInt_eq_ofNat {a : Int} (h : 0 ≤ a) (n : Nat) : BitVec.ofInt n a = BitVec.ofNat n a.toNat := by
  obtain ⟨m, rfl⟩ := Int.eq_ofNat_of_zero_le h
  rfl

/-! ## The answers of the cache (R130, R136, R137) -/

theorem hits_eq (e : CacheEntry) (sid : SpaceNo) (r : WalkRequest) :
    e.hits sid r = servedBy e sid r.eva r.write r.trust := by
  have hregion : pageRegion (evaPage r.eva) = r.eva.extractLsb' 21 19 := extractLsb'_extract r.eva 12 28 (by decide)
  unfold CacheEntry.hits CacheEntry.covers servedBy
  rw [hregion]
  rfl

theorem translateIn_eq (frame : Pa) (block : Bool) (a : Eva) : translateIn frame block a = framePa frame block a := by
  unfold translateIn framePa
  refine congrArg (frame + ·) (BitVec.eq_of_toNat_eq ?_)
  cases block <;> simp

theorem requestTranslation_bypass {s : State} {sid : SpaceNo} (h : (s.space sid).mode = 1) (r : WalkRequest) :
    s.requestTranslation sid r = (s, some (r.eva.setWidth 44)) := if_pos h

theorem requestTranslation_hit {s : State} {sid : SpaceNo} (h : (s.space sid).mode ≠ 1) {r : WalkRequest} {e : CacheEntry}
    (he : s.cache.find? (fun f => servedBy f sid r.eva r.write r.trust) = some e) :
    s.requestTranslation sid r = ({ s with cache := e :: s.cache.erase e }, some (framePa e.frame e.block r.eva)) := by
  have hlookup : lookupCache s.cache sid r = some (framePa e.frame e.block r.eva, e :: s.cache.erase e) := by
    unfold lookupCache
    simp only [hits_eq, he, translateIn_eq]
  unfold State.requestTranslation
  rw [if_neg h, hlookup]

theorem requestTranslation_miss {s : State} {sid : SpaceNo} (h : (s.space sid).mode ≠ 1) {r : WalkRequest}
    (hmiss : ∀ e ∈ s.cache, servedBy e sid r.eva r.write r.trust = false) :
    s.requestTranslation sid r = (s.enqueueRequest sid r, none) := by
  have hlookup : lookupCache s.cache sid r = none := by
    have hfind : s.cache.find? (fun f => servedBy f sid r.eva r.write r.trust) = none := by
      rw [List.find?_eq_none]
      intro e he
      simp [hmiss e he]
    unfold lookupCache
    simp only [hits_eq, hfind]
  unfold State.requestTranslation
  rw [if_neg h, hlookup]

/-! ## From an access to its transactions (R117) -/

/-- Lane z takes lane y's position: its job, its place, the buffer's content and the failure it settles are y's. -/
structure Lane.AtPositionOf (z y : Lane) : Prop where
  job : y.SameJob z
  contents : z.contents = y.contents
  place : z.place = y.place
  failure : z.failure = y.failure

namespace Lane.AtPositionOf

variable {y z : Lane} (h : z.AtPositionOf y)
include h

theorem pos : z.beatStart + z.place = y.beatStart + y.place := by
  obtain ⟨-, -, -, -, -, -, -, hstart, -⟩ := h.job
  rw [hstart, h.place]

theorem mayStep : z.mayStep = y.mayStep := by
  have hpos : z.pos = y.pos := h.pos
  obtain ⟨hstate, -, -, -, -, -, -, -, hlength⟩ := h.job
  unfold Lane.mayStep
  rw [hstate, hlength, h.place, h.failure, hpos]

theorem takenBytes : Certificates.takenBytes z = Certificates.takenBytes y := by
  have hslot : (z.slots[z.place]?).bind (·.shaped) = (y.slots[y.place]?).bind (·.shaped) := by
    have hget := congrArg (fun cs : List (Option Shaped) => (cs[y.place]?).bind id) h.contents
    simp only [Lane.contents, List.getElem?_map, Option.bind_map] at hget
    rw [h.place]
    exact hget
  unfold Certificates.takenBytes
  rw [hslot]

theorem issues (timeout : BitVec 16) (k : AccessKind) (qs : List HeldPortion) (out final : List LaneTxn) :
    IssuesInOrder z timeout k qs out final ↔ IssuesInOrder y timeout k qs out final :=
  issuesInOrder_congr h.pos h.takenBytes _ _ _ _ _

end Lane.AtPositionOf

/-- A lane whose portions are all translated issues them. -/
theorem issuesInOrder_translated {l : LaneNo} {k : AccessKind} {held : List HeldPortion} {n : Nat} {s : State}
    (h : (s.lane l).mayStep = true) (hc : (s.lane l).cursor = .translate k held []) (hn : 8 ≤ n) :
    IssuesInOrder (s.lane l) s.busTimeout k held (s.lane l).txns ((State.pumpSteps (n + 1) l s).lane l).txns := by
  rw [pumpSteps_succ (laneStep_translated h hc)]
  generalize ht : s.setLane l { s.lane l with cursor := .issue k held } = t
  have hlane : t.lane l = { s.lane l with cursor := .issue k held } := by rw [← ht, lane_setLane_same]
  have htimeout : t.busTimeout = s.busTimeout := by rw [← ht]; rfl
  have hissues := issuesInOrder_pumpSteps held n t (by rw [hlane]; exact h) (by rw [hlane]) (by omega)
  rw [hlane, htimeout] at hissues
  exact (issuesInOrder_congr (y := s.lane l) (by rfl) (by rfl) _ _ _ _ _).mp hissues

/-- A lane in a BYPASS space translates its portions by itself and issues them (R127). -/
theorem issuesInOrder_bypass {l : LaneNo} {k : AccessKind} (todo : List Portion) {held : List HeldPortion} {n : Nat}
    {s : State} (h : (s.lane l).mayStep = true) (hc : (s.lane l).cursor = .translate k held todo)
    (hr : (s.lane l).request = false) (hmode : (s.space (s.lane l).sid).mode = 1) (hn : 8 + todo.length ≤ n) :
    IssuesInOrder (s.lane l) s.busTimeout k
      (held ++ todo.map fun q => { portion := q, pa := q.eva.setWidth 44, old := false }) (s.lane l).txns
      ((State.pumpSteps (n + 1) l s).lane l).txns := by
  induction todo generalizing held n s with
  | nil =>
    rw [List.map_nil, List.append_nil]
    exact issuesInOrder_translated h hc (by simpa using hn)
  | cons p rest ih =>
    rw [pumpSteps_succ (laneStep_translates h hc hr (requestTranslation_bypass hmode _))]
    obtain ⟨n, rfl⟩ : ∃ m, n = m + 1 := ⟨n - 1, by rw [List.length_cons] at hn; omega⟩
    rw [List.length_cons] at hn
    generalize ht : s.setLane l { s.lane l with
      cursor := .translate k (held ++ [{ portion := p, pa := p.eva.setWidth 44 }]) rest } = t
    have hlane : t.lane l = { s.lane l with
        cursor := .translate k (held ++ [{ portion := p, pa := p.eva.setWidth 44 }]) rest } := by
      rw [← ht, lane_setLane_same]
    have htimeout : t.busTimeout = s.busTimeout := by rw [← ht]; rfl
    have hspace : t.space (s.lane l).sid = s.space (s.lane l).sid := by rw [← ht]; rfl
    have hissues := ih (s := t) (n := n) (by rw [hlane]; exact h) (by rw [hlane]) (by rw [hlane]; exact hr)
      (by rw [hlane]; exact hspace ▸ hmode) (by omega)
    rw [hlane, htimeout, List.append_assoc] at hissues
    exact (issuesInOrder_congr (y := s.lane l) (by rfl) (by rfl) _ _ _ _ _).mp hissues

/-! ## A failed transaction (R122, R123) -/

/-- A lane that settles no failure yet takes one of a position up to its own, and takes no further step. -/
theorem laneTxnFails_eq {u : State} {l : LaneNo} (k : Nat) {x : LaneTxn} (cause : Cause)
    (hstate : (u.lane l).state ≠ .draining) (hfailure : (u.lane l).failure = none) (hpos : x.pos ≤ (u.lane l).pos) :
    u.laneTxnFails l k x cause = u.setLane l { u.lane l with
      txns := (u.lane l).txns.eraseIdx k, cursor := .begin
      failure := some { pos := x.pos, portion := if x.portion.off = 0 then 0 else 1
                        fault := some { cause := cause, access := x.kind, level := 0#2
                                        element := elementIndex (u.lane l).order (u.lane l).progress.down x.pos
                                        addr := x.portion.eva.setWidth 44, entry := 0#44 } } } := by
  have hlane : (if (u.lane l).state = .draining then (u.lane l).endTxn k
      else ((u.lane l).endTxn k).fail ((u.lane l).txnFailure x cause)) = { u.lane l with
      txns := (u.lane l).txns.eraseIdx k, cursor := .begin
      failure := some ((u.lane l).txnFailure x cause) } := by
    rw [if_neg hstate]
    unfold Lane.fail Lane.endTxn
    simp only [hfailure]
  rw [State.laneTxnFails, State.modLane, hlane]
  refine pump_stuck ?_
  rw [lane_setLane_same]
  exact mayStep_failed rfl hpos

/-- A draining lane only forgets the transaction (R124). -/
theorem laneTxnFails_draining {u : State} {l : LaneNo} (k : Nat) (x : LaneTxn) (cause : Cause)
    (hstate : (u.lane l).state = .draining) :
    u.laneTxnFails l k x cause = u.setLane l { u.lane l with txns := (u.lane l).txns.eraseIdx k } := by
  rw [State.laneTxnFails, State.modLane, if_pos hstate]
  refine pump_stuck ?_
  rw [lane_setLane_same]
  exact mayStep_draining hstate

/-! ## The answer to a pointer read (R84 to R90) -/

/-- A lane of a position past a pointer read's answer: its pointer read is over, with the bytes v. -/
def Lane.pointed (y : Lane) (k : Nat) (v : BitVec 64) : Lane :=
  { y with txns := y.txns.eraseIdx k, ptrLeft := 0, ptrRaw := v }

/-- What the lane of a pointer read's answer is and does: the position it takes has no failure and waits for this one
portion of its pointer. -/
structure Lane.AwaitsPointer (y : Lane) : Prop where
  state : y.state = .reading ∨ y.state = .writing
  failure : y.failure = none
  cursor : y.cursor = .pointer
  left : y.ptrLeft = 1
  request : y.request = false
  place : y.place < y.slots.length

theorem Lane.AwaitsPointer.mayStep {y : Lane} (h : y.AwaitsPointer) : y.mayStep = true :=
  (mayStep_iff y).mpr ⟨h.state, h.place, by simp [h.failure]⟩

/-- The data of the last portion of a pointer read. -/
theorem pointerData_eq {y : Lane} (h : y.AwaitsPointer) (x : LaneTxn) (k : Nat) (d : BitVec 64) :
    (y.endTxn k).pointerData x d = y.pointed k (y.ptrRaw ||| placeBytes d x.portion) := by
  have hdiscards : (y.endTxn k).discards x.pos = false := by
    simp [Lane.discards, Lane.endTxn, h.failure]
  have hdraining : (y.endTxn k).state ≠ .draining := by
    rcases h.state with hs | hs <;> simp [Lane.endTxn, hs]
  unfold Lane.pointerData
  rw [if_neg (by simp [hdiscards, hdraining])]
  unfold Lane.pointed Lane.endTxn
  rw [h.left]

/-- The access of an element whose address lies outside the space (R89). -/
theorem formAccess_outside {y : Lane} (k : AccessKind) {a : Int} {size : Nat} (h : ¬(0 ≤ a ∧ a + size ≤ 2 ^ 40))
    (hfailure : y.failure = none) :
    y.formAccess k a size = { y with
      cursor := .begin
      failure := some { pos := y.pos, portion := 0
                        fault := some { cause := .addressRange, access := k, level := 0#2, element := y.element y.pos
                                        addr := BitVec.ofInt 44 a, entry := 0#44 } } } := by
  unfold Lane.formAccess
  rw [if_neg (mt (addressInRange_iff a size).mp h)]
  unfold Lane.fail
  simp only [hfailure]
  rfl

/-- The access of an element whose address lies in the space: its portions are to be translated (R87, R88). -/
theorem formAccess_inside {y : Lane} {k : AccessKind} (hk : k = .srcData ∨ k = .dstData) {a : Int} {size : Nat}
    (h : 0 ≤ a ∧ a + size ≤ 2 ^ 40) :
    (y.formAccess k a size).AtPositionOf y ∧
      (y.formAccess k a size).cursor = .translate k [] (portionsOf a.toNat size) ∧
      (y.formAccess k a size).request = y.request := by
  have hform : y.formAccess k a size = { y.expect k (portionsOf a.toNat size).length with
      cursor := .translate k [] (portionsOf a.toNat size) } := if_pos ((addressInRange_iff a size).mpr h)
  have hexpect : (y.expect k (portionsOf a.toNat size).length).place = y.place ∧
      (y.expect k (portionsOf a.toNat size).length).failure = y.failure ∧
      (y.expect k (portionsOf a.toNat size).length).request = y.request := by
    rcases hk with rfl | rfl <;> exact ⟨rfl, rfl, rfl⟩
  obtain ⟨hplace, hfailure, hrequest⟩ := hexpect
  refine ⟨⟨formAccess_sameJob y k a size, formAccess_contents y k a size, ?_, ?_⟩, ?_, ?_⟩ <;> rw [hform]
  · exact hplace
  · exact hfailure
  · exact hrequest

section
variable {s u : State} (hu : s.settled = u) {l : LaneNo} {k : Nat} {x : LaneTxn} (hx : (u.lane l).txns[k]? = some x)
  (hkind : x.kind.isPointer = true)
include hu hx hkind

theorem exec_pointerRead_error : exec (.pointerReadResponse l k none) s = .next (u.laneTxnFails l k x .busErrorData) := by
  refine congrArg Host.Outcome.next ?_
  rw [serialise_eq, hu]
  simp [State.pointerReadResponse, hx, hkind]

theorem exec_pointerRead_data (h : (u.lane l).AwaitsPointer) (d : BitVec 64) :
    exec (.pointerReadResponse l k (some d)) s =
      .next ((u.setLane l ((u.lane l).pointed k ((u.lane l).ptrRaw ||| placeBytes d x.portion))).pump l) := by
  refine congrArg Host.Outcome.next ?_
  rw [serialise_eq, hu, ← pointerData_eq h]
  simp [State.pointerReadResponse, hx, hkind, State.modLane]

end

/-- A lane with its pointer forms the access of its element in its next step. -/
theorem pump_pointed {u : State} {l : LaneNo} (h : (u.lane l).AwaitsPointer) (k : Nat) (v : BitVec 64) :
    (u.setLane l ((u.lane l).pointed k v)).pump l =
      State.pumpSteps 255 l (u.setLane l ((u.lane l).pointed k v).followPointer) := by
  have hstep := laneStep_follows (s := u.setLane l ((u.lane l).pointed k v)) (l := l)
    (by rw [lane_setLane_same]; exact h.mayStep) (by rw [lane_setLane_same]; exact h.cursor)
    (by rw [lane_setLane_same]; rfl)
  rw [lane_setLane_same, setLane_setLane] at hstep
  exact pumpSteps_succ hstep 255

/-- The element's access, by the phase of the lane and the pointer it has read. -/
theorem followPointer_pointed (y : Lane) (k : Nat) (v : BitVec 64) {reading : Bool}
    (h : decide (y.state = .reading) = reading) :
    (y.pointed k v).followPointer = (y.pointed k v).formAccess (if reading then .srcData else .dstData)
      (pointerAddress (if reading then ordSrcWalk y.order else ordDstWalk y.order) v)
      (if reading then fmtSize (ordSrcFmt y.order) else fmtSize (ordDstFmt y.order)) := by
  have hphase {α : Type} (b c : α) : (if y.state = .reading then b else c) = if reading = true then b else c := by
    subst h
    by_cases h : y.state = .reading <;> simp [h]
  unfold Lane.followPointer Lane.dataKind Lane.walk Lane.elementSize
  rw [← hphase, ← hphase, ← hphase]
  rfl

/-- An element outside the space stops the lane at its position. -/
theorem pumpSteps_outside {u : State} {l : LaneNo} (h : (u.lane l).AwaitsPointer) (k : Nat) (v : BitVec 64)
    (kind : AccessKind) {a : Int} {size : Nat} (hout : ¬(0 ≤ a ∧ a + size ≤ 2 ^ 40)) (n : Nat) :
    State.pumpSteps n l (u.setLane l (((u.lane l).pointed k v).formAccess kind a size)) =
      u.setLane l { (u.lane l).pointed k v with
        cursor := .begin
        failure := some { pos := (u.lane l).pos, portion := 0
                          fault := some { cause := .addressRange, access := kind, level := 0#2
                                          element := (u.lane l).element (u.lane l).pos
                                          addr := BitVec.ofInt 44 a, entry := 0#44 } } } := by
  rw [formAccess_outside kind hout (by exact h.failure)]
  refine pumpSteps_stop (laneStep_stuck ?_) n
  rw [lane_setLane_same]
  exact mayStep_failed rfl (Nat.le_refl _)

/-- The lane of a pointer read's answer with its element's access formed. -/
structure Lane.FormsElement (z y : Lane) (k : Nat) (kind : AccessKind) (ps : List Portion) : Prop where
  position : z.AtPositionOf y
  mayStep : z.mayStep = true
  cursor : z.cursor = .translate kind [] ps
  request : z.request = false
  failure : z.failure = none
  txns : z.txns = y.txns.eraseIdx k
  sid : z.sid = y.sid
  trust : z.trust = y.trust

theorem formsElement {y : Lane} (h : y.AwaitsPointer) (k : Nat) (v : BitVec 64) {kind : AccessKind}
    (hk : kind = .srcData ∨ kind = .dstData) {a : Int} {size : Nat} (hin : 0 ≤ a ∧ a + size ≤ 2 ^ 40) :
    ((y.pointed k v).formAccess kind a size).FormsElement y k kind (portionsOf a.toNat size) := by
  obtain ⟨⟨hjob, hcontents, hplace, hfailure⟩, hcursor, hrequest⟩ := formAccess_inside (y := y.pointed k v) hk hin
  have hpos : ((y.pointed k v).formAccess kind a size).AtPositionOf y :=
    ⟨sameJob_trans (by simp [Lane.SameJob, Lane.pointed]) hjob, hcontents, hplace, hfailure⟩
  have hfields := hpos.job
  obtain ⟨-, -, -, -, hsid, htrust, -, -, -⟩ := hfields
  exact ⟨hpos, hpos.mayStep.trans h.mayStep, hcursor, hrequest.trans h.request, hfailure.trans h.failure,
    formAccess_txns _ _ _ _, hsid, htrust⟩

/-- A lane whose next portion no cache entry serves ends with its request outstanding (R137, R139). -/
theorem pumpSteps_requests {s : State} {l : LaneNo} {k : AccessKind} {done : List HeldPortion} {p : Portion}
    {todo : List Portion} (h : (s.lane l).mayStep = true) (hc : (s.lane l).cursor = .translate k done (p :: todo))
    (hr : (s.lane l).request = false) (hmode : (s.space (s.lane l).sid).mode ≠ 1)
    (hmiss : ∀ e ∈ s.cache, servedBy e (s.lane l).sid p.eva (k == .dstData) (s.lane l).trust = false) (n : Nat) :
    ((State.pumpSteps (n + 1) l s).lane l) = { s.lane l with request := true } := by
  rw [pumpSteps_succ (laneStep_requests h hc hr (requestTranslation_miss hmode hmiss))]
  generalize hs : State.enqueueRequest s (s.lane l).sid
    { lane := l, write := k.isWrite, eva := p.eva, trust := (s.lane l).trust, kind := k } = t
  have hlane : (t.setLane l { s.lane l with request := true }).lane l = { s.lane l with request := true } :=
    lane_setLane_same _ _ _
  rw [pumpSteps_stop (laneStep_requesting (by rw [hlane]; exact h) (by rw [hlane]; exact hc) (by rw [hlane])), hlane]

/-- A lane whose last portion a cache entry serves issues the access (R137). -/
theorem issuesInOrder_served {s : State} {l : LaneNo} {k : AccessKind} {done : List HeldPortion} {p : Portion} {e : CacheEntry}
    {n : Nat} (h : (s.lane l).mayStep = true) (hc : (s.lane l).cursor = .translate k done [p])
    (hr : (s.lane l).request = false) (hmode : (s.space (s.lane l).sid).mode ≠ 1)
    (he : s.cache.find? (fun f => servedBy f (s.lane l).sid p.eva (k == .dstData) (s.lane l).trust) = some e)
    (hn : 8 ≤ n) :
    IssuesInOrder (s.lane l) s.busTimeout k
      (done ++ [{ portion := p, pa := framePa e.frame e.block p.eva, old := false }]) (s.lane l).txns
      ((State.pumpSteps (n + 2) l s).lane l).txns := by
  rw [pumpSteps_succ (laneStep_translates h hc hr (requestTranslation_hit hmode he))]
  generalize ht : State.setLane { s with cache := e :: s.cache.erase e } l { s.lane l with
    cursor := .translate k (done ++ [{ portion := p, pa := framePa e.frame e.block p.eva }]) [] } = t
  have hlane : t.lane l = { s.lane l with
      cursor := .translate k (done ++ [{ portion := p, pa := framePa e.frame e.block p.eva }]) [] } := by
    rw [← ht, lane_setLane_same]
  have htimeout : t.busTimeout = s.busTimeout := by rw [← ht]; rfl
  have hissues := issuesInOrder_translated (s := t) (by rw [hlane]; exact h) (by rw [hlane]) hn
  rw [hlane, htimeout] at hissues
  exact (issuesInOrder_congr (y := s.lane l) (by rfl) (by rfl) _ _ _ _ _).mp hissues

end Sys2Proof.Machine
end

section
/-! PROOFS. Pointer reads (chapter 5). -/

open Sys2Proof Sys2Proof.Machine Sys2Proof.Certificates

namespace Sys2Proof.Proofs

/-- Settles O44: the pointer's data, the access formed from it, and the steps of the lane that follow. -/
theorem pointerReadFormsTheElementAddress : Obligations.PointerReadFormsTheElementAddress := by
  intro s u l k x d hu y reading hstate hx hkind hpos hfailure hcursor hleft hrequest hplace v w size data disp a i
  have hy : y.AwaitsPointer := ⟨hstate, hfailure, hcursor, hleft, hrequest, hplace⟩
  have hpointer : x.kind.isPointer = true := by
    rw [hkind]
    split <;> rfl
  have herror := exec_pointerRead_error hu hx hpointer
  have hpump := pump_pointed hy k v
  have hfollow := followPointer_pointed y k v (reading := reading) rfl
  rw [pointerAddress_eq] at hfollow
  change (y.pointed k v).followPointer = (y.pointed k v).formAccess data a size at hfollow
  rw [hfollow] at hpump
  have hexec := (exec_pointerRead_data hu hx hpointer hy d).trans (congrArg Host.Outcome.next hpump)
  have hdata : data = .srcData ∨ data = .dstData := by
    simp only [data]
    split <;> simp
  clear_value a data size
  refine ⟨?_, fun hout => ?_, fun ha0 hin hmode hmiss => ?_, fun e ha0 hin hpage hmode hserved => ?_,
    fun ha0 hin hmode => ?_⟩
  · rw [herror, laneTxnFails_eq k _ (by rcases hstate with h | h <;> rw [h] <;> decide) hfailure (Nat.le_of_eq hpos), hpos]
  · rw [pumpSteps_outside hy k v data hout] at hexec
    refine ⟨_, hexec, ?_, ?_, ?_⟩ <;> rw [lane_setLane_same] <;> rfl
  all_goals
    have hz := formsElement hy k v hdata ⟨ha0, hin⟩
    obtain ⟨hchannels, hothers, -⟩ := pump_job (u.setLane l (y.pointed k v)) l
    have hlane := lane_setLane_same u l ((y.pointed k v).formAccess data a size)
    rw [hpump] at hchannels hothers
    generalize ((y.pointed k v).formAccess data a size) = z at hpump hz hlane hexec hchannels hothers
    refine ⟨_, hexec, ?_⟩
    have hmay : ((u.setLane l z).lane l).mayStep = true := by rw [hlane]; exact hz.mayStep
    have hcur : ((u.setLane l z).lane l).cursor = .translate data [] (portionsOf a.toNat size) := by rw [hlane]; exact hz.cursor
    have hreq : ((u.setLane l z).lane l).request = false := by rw [hlane]; exact hz.request
    have hsid : ((u.setLane l z).lane l).sid = y.sid := by rw [hlane]; exact hz.sid
    have htrust : ((u.setLane l z).lane l).trust = y.trust := by rw [hlane]; exact hz.trust
    have hspace : ((u.setLane l z).space ((u.setLane l z).lane l).sid).mode = (u.space y.sid).mode := by rw [hsid]; rfl
    rw [hmode] at hspace
  · obtain ⟨p, rest, hps, heva⟩ := portionsOf_head a.toNat size
    rw [← ofInt_eq_ofNat ha0] at heva
    have hend := pumpSteps_requests hmay (by rw [hcur, hps]) hreq (by rw [hspace]; decide)
      (by rw [hsid, htrust, heva]; exact hmiss) 254
    rw [hend, hlane]
    refine ⟨hz.txns, hz.failure, rfl, hz.cursor, hchannels, fun m hm => ?_⟩
    rw [hothers m hm, lane_setLane_ne _ _ hm]
  · have hps : portionsOf a.toNat size = [{ eva := BitVec.ofInt 40 a, off := 0, len := size }] := by
      rw [portionsOf_one (by omega), ofInt_eq_ofNat ha0]
    have hissues := issuesInOrder_served (n := 253) hmay (by rw [hcur, hps]) hreq (by rw [hspace]; decide)
      (by rw [hsid, htrust]; exact hserved) (by decide)
    rw [hlane, hz.position.issues, hz.txns] at hissues
    exact ⟨hchannels, hissues⟩
  · have hissues := issuesInOrder_bypass (n := 254) _ hmay hcur hreq hspace (by
      have := portionsOf_length_le a.toNat size
      omega)
    rw [hlane, hz.position.issues, hz.txns] at hissues
    exact ⟨hchannels, hissues⟩

end Sys2Proof.Proofs
end

section
/-! SUPPORT. The answers to a lane's data accesses: what they put into the beat buffer, what is shaped, and what the
progress count passes (R102, R103, R107, R118, R120). -/

open Sys2Proof.Certificates

namespace Sys2Proof.Machine

/-! ## Answers of a lane that has taken every position of its beat -/

/-- A lane updated, with no position left to take. -/
theorem modLane_pump_done {u : State} {l : LaneNo} {f : Lane → Lane}
    (h : (f (u.lane l)).slots.length ≤ (f (u.lane l)).place) :
    (u.modLane l f).pump l = u.setLane l (f (u.lane l)) := by
  refine pump_stuck ?_
  rw [lane_modLane_same]
  exact mayStep_done h

theorem fail_place (x : Lane) (f : Failure) : (x.fail f).place = x.place := by
  unfold Lane.fail
  repeat' split
  all_goals rfl

theorem shapeReady_place (x : Lane) : x.shapeReady.place = x.place := by
  unfold Lane.shapeReady
  dsimp only
  split
  · rfl
  · exact fail_place _ _

theorem slots_length_of_sameJob {x y : Lane} (h : x.SameJob y) : y.slots.length = x.slots.length := by
  obtain ⟨-, -, -, -, -, -, -, -, hlength⟩ := h
  exact hlength

/-- The count keeps the length of the buffer, the source bytes in it and the lane's place. -/
theorem countUp_keeps (n : Nat) (x : Lane) :
    (x.countUp n).slots.map (·.raw) = x.slots.map (·.raw) ∧ (x.countUp n).place = x.place := by
  induction n generalizing x with
  | zero => exact ⟨rfl, rfl⟩
  | succ n ih =>
    unfold Lane.countUp
    split
    · exact ⟨rfl, rfl⟩
    · split
      · obtain ⟨hraw, hplace⟩ := ih _
        refine ⟨hraw.trans ?_, hplace⟩
        refine List.ext_getElem? fun j => ?_
        simp only [Lane.modSlot, List.getElem?_map, List.getElem?_modify]
        cases x.slots[j]? with
        | none => rfl
        | some b => split <;> rfl
      · exact ⟨rfl, rfl⟩

theorem shapeSlots_raw (o : BitVec 512) (limit : Option Nat) (p : Nat) (bs : List BeatSlot) :
    (shapeSlots o limit p bs).1.map (·.raw) = bs.map (·.raw) := by
  induction bs generalizing p with
  | nil => rfl
  | cons b rest ih =>
    unfold shapeSlots
    split
    · simp [ih]
    · split
      · rfl
      · dsimp only
        split
        · rfl
        · simp [ih]

theorem shapeReady_raw (x : Lane) : x.shapeReady.slots.map (·.raw) = x.slots.map (·.raw) := by
  unfold Lane.shapeReady
  dsimp only
  split
  · exact shapeSlots_raw _ _ _ _
  · rw [fail_slots]
    exact shapeSlots_raw _ _ _ _

/-! ## The data of a read (R118) -/

/-- A lane whose read has its data, before anything is shaped. -/
def Lane.received (y : Lane) (k : Nat) (x : LaneTxn) (d : BitVec 64) : Lane :=
  (y.endTxn k).modSlot x.pos fun b =>
    { b with readsLeft := lessOne b.readsLeft, raw := b.raw ||| placeBytes d x.portion }

theorem readData_eq {y : Lane} (k : Nat) (x : LaneTxn) (d : BitVec 64) (hstate : y.state = .reading)
    (hfailure : y.failure = none) :
    (y.endTxn k).readData x d =
      if orderKind y.order = some .digest then (y.received k x d).shapeReady.count else (y.received k x d).shapeReady := by
  have horder : (y.received k x d).shapeReady.order = y.order := by
    obtain ⟨-, -, -, horder, -⟩ := shapeReady_sameJob (y.received k x d)
    exact horder
  have hkeeps : ¬((y.endTxn k).state = .draining ∨ (y.endTxn k).discards x.pos = true) := by
    simp [Lane.endTxn, Lane.discards, hstate, hfailure]
  unfold Lane.readData
  rw [if_neg hkeeps]
  change (if orderKind (y.received k x d).shapeReady.order = _ then _ else _) = _
  simp only [horder]
  rfl

/-- What a read's data leaves of the lane, shaped and counted or not. -/
theorem readData_keeps_buffer {y : Lane} (k : Nat) (x : LaneTxn) (d : BitVec 64) (hstate : y.state = .reading)
    (hfailure : y.failure = none) :
    ((y.endTxn k).readData x d).slots.map (·.raw) = (y.received k x d).slots.map (·.raw) ∧
      ((y.endTxn k).readData x d).place = y.place ∧ ((y.endTxn k).readData x d).txns = y.txns.eraseIdx k := by
  rw [readData_eq k x d hstate hfailure]
  split
  · obtain ⟨hraw, hplace⟩ := countUp_keeps (y.received k x d).shapeReady.slots.length (y.received k x d).shapeReady
    obtain ⟨slots, p, hcount⟩ := countUp_frame (y.received k x d).shapeReady.slots.length (y.received k x d).shapeReady
    refine ⟨hraw.trans (shapeReady_raw _), hplace.trans (shapeReady_place _), ?_⟩
    rw [Lane.count, hcount]
    exact shapeReady_txns _
  · exact ⟨shapeReady_raw _, shapeReady_place _, shapeReady_txns _⟩

/-- The source bytes of the position a read serves, its data put at their place. -/
theorem received_raw {y : Lane} (k : Nat) {x : LaneTxn} (d : BitVec 64) {b : BeatSlot}
    (hb : y.slots[x.pos - y.beatStart]? = some b) :
    (y.received k x d).slots[x.pos - y.beatStart]? =
      some { b with readsLeft := lessOne b.readsLeft, raw := b.raw ||| placeBytes d x.portion } := by
  have hslots : (y.received k x d).slots = y.slots.modify (x.pos - y.beatStart) fun b =>
      { b with readsLeft := lessOne b.readsLeft, raw := b.raw ||| placeBytes d x.portion } := rfl
  rw [hslots, List.getElem?_modify_eq, hb]
  rfl

/-! ## Shaping the position a read completes (R103, R118) -/

/-- Positions already shaped are passed over. -/
theorem shapeSlots_append {o : BitVec 512} {limit : Option Nat} {pre rest : List BeatSlot} (p : Nat)
    (h : ∀ b ∈ pre, b.isShaped = true) :
    shapeSlots o limit p (pre ++ rest) =
      (pre ++ (shapeSlots o limit (p + pre.length) rest).1, (shapeSlots o limit (p + pre.length) rest).2) := by
  induction pre generalizing p with
  | nil => rfl
  | cons b pre ih =>
    have hb : b.isShaped = true := h b List.mem_cons_self
    have ih := ih (p + 1) fun b hb => h b (List.mem_cons_of_mem _ hb)
    have hlength : p + 1 + pre.length = p + (b :: pre).length := by
      rw [List.length_cons]
      omega
    rw [List.cons_append, shapeSlots, if_pos hb, ih, hlength]
    rfl

/-- Shaping stops at a position whose data is not complete. -/
theorem shapeSlots_stop {o : BitVec 512} {limit : Option Nat} {rest : List BeatSlot} (p : Nat)
    (h : ∀ n, rest[0]? = some n → n.isShaped = false ∧ n.readsLeft ≠ some 0) :
    shapeSlots o limit p rest = (rest, none) := by
  cases rest with
  | nil => rfl
  | cons n rest =>
    obtain ⟨hn, hreads⟩ := h n rfl
    rw [shapeSlots, if_neg (by simp [hn]), if_pos (.inl hreads)]

/-- The one position that can be shaped. -/
theorem shapeSlots_one {o : BitVec 512} {b : BeatSlot} {rest : List BeatSlot} (p : Nat) (hb : b.isShaped = false)
    (hreads : b.readsLeft = some 0) (h : ∀ n, rest[0]? = some n → n.isShaped = false ∧ n.readsLeft ≠ some 0) :
    shapeSlots o none p (b :: rest) =
      if (shapeElement o b.raw).flags.meets (ordStrict o) then (b :: rest, some p)
      else ({ b with isShaped := true, shaped := some (shapeElement o b.raw) } :: rest, none) := by
  rw [shapeSlots, if_neg (by simp [hb]), if_neg (by simp [hreads])]
  dsimp only
  rw [shapeSlots_stop (p + 1) h]

theorem shapeReady_of_none {z : Lane} {slots : List BeatSlot}
    (h : shapeSlots z.order (z.failure.map (·.pos)) z.beatStart z.slots = (slots, none)) :
    z.shapeReady = { z with slots := slots } := by
  unfold Lane.shapeReady
  rw [h]

theorem shapeReady_of_some {z : Lane} {slots : List BeatSlot} {p : Nat} (hfailure : z.failure = none)
    (h : shapeSlots z.order (z.failure.map (·.pos)) z.beatStart z.slots = (slots, some p)) :
    z.shapeReady = { z with
      slots := slots, cursor := .begin, failure := some { pos := p, portion := 0, fault := none } } := by
  unfold Lane.shapeReady
  rw [h]
  unfold Lane.fail
  simp only [hfailure]

/-- A read that is the last its position waits for, where every lower position of the beat is shaped and the next one
waits for data of its own. -/
structure Lane.Completes (y : Lane) (x : LaneTxn) (b : BeatSlot) : Prop where
  slot : y.slots[x.pos - y.beatStart]? = some b
  start : y.beatStart ≤ x.pos
  failure : y.failure = none
  last : b.readsLeft = some 1
  unshaped : b.isShaped = false
  lower : ∀ j n, j < x.pos - y.beatStart → y.slots[j]? = some n → n.isShaped = true
  next : ∀ n, y.slots[x.pos + 1 - y.beatStart]? = some n → n.isShaped = false ∧ n.readsLeft ≠ some 0

section
variable {y : Lane} {x : LaneTxn} {b : BeatSlot} (h : y.Completes x b) (k : Nat) (d : BitVec 64)
include h

theorem received_slots : (y.received k x d).slots =
    y.slots.take (x.pos - y.beatStart) ++
      { b with readsLeft := some 0, raw := b.raw ||| placeBytes d x.portion } ::
        y.slots.drop (x.pos - y.beatStart + 1) := by
  obtain ⟨hlt, hget⟩ := List.getElem?_eq_some_iff.mp h.slot
  have hslots : (y.received k x d).slots = y.slots.modify (x.pos - y.beatStart) fun b =>
      { b with readsLeft := lessOne b.readsLeft, raw := b.raw ||| placeBytes d x.portion } := rfl
  rw [hslots, List.modify_eq_take_cons_drop hlt, hget, h.last]
  rfl

/-- The position shaped, or its strict failure. -/
theorem shapeReady_received :
    (y.received k x d).shapeReady =
      if (shapeElement y.order (b.raw ||| placeBytes d x.portion)).flags.meets (ordStrict y.order) then
        { y.received k x d with cursor := .begin, failure := some { pos := x.pos, portion := 0, fault := none } }
      else { y.received k x d with
        slots := y.slots.take (x.pos - y.beatStart) ++
          { b with readsLeft := some 0, raw := b.raw ||| placeBytes d x.portion, isShaped := true
                   shaped := some (shapeElement y.order (b.raw ||| placeBytes d x.portion)) } ::
            y.slots.drop (x.pos - y.beatStart + 1) } := by
  obtain ⟨hlt, -⟩ := List.getElem?_eq_some_iff.mp h.slot
  have hlength : (y.slots.take (x.pos - y.beatStart)).length = x.pos - y.beatStart := by
    rw [List.length_take]
    omega
  have hlower : ∀ n ∈ y.slots.take (x.pos - y.beatStart), n.isShaped = true := by
    intro n hn
    obtain ⟨j, hj, hget⟩ := List.mem_take_iff_getElem.mp hn
    exact h.lower j n (by omega) (by rw [← hget]; exact List.getElem?_eq_getElem _)
  have hnext : ∀ n, (y.slots.drop (x.pos - y.beatStart + 1))[0]? = some n → n.isShaped = false ∧ n.readsLeft ≠ some 0 := by
    intro n hn
    refine h.next n ?_
    rw [List.getElem?_drop] at hn
    have hplace : x.pos + 1 - y.beatStart = x.pos - y.beatStart + 1 + 0 := by
      have := h.start
      omega
    rw [hplace, hn]
  have hpos : y.beatStart + (x.pos - y.beatStart) = x.pos := Nat.add_sub_cancel' h.start
  have hshape : shapeSlots y.order none y.beatStart (y.received k x d).slots =
      if (shapeElement y.order (b.raw ||| placeBytes d x.portion)).flags.meets (ordStrict y.order) then
        ((y.received k x d).slots, some x.pos)
      else (y.slots.take (x.pos - y.beatStart) ++
          { b with readsLeft := some 0, raw := b.raw ||| placeBytes d x.portion, isShaped := true
                   shaped := some (shapeElement y.order (b.raw ||| placeBytes d x.portion)) } ::
            y.slots.drop (x.pos - y.beatStart + 1), none) := by
    rw [received_slots h, shapeSlots_append _ hlower, hlength, hpos, shapeSlots_one x.pos (by exact h.unshaped) rfl hnext]
    split <;> rfl
  have hfailure : (y.received k x d).failure = none := h.failure
  have hlimit : shapeSlots (y.received k x d).order ((y.received k x d).failure.map (·.pos)) (y.received k x d).beatStart
      (y.received k x d).slots = shapeSlots y.order none y.beatStart (y.received k x d).slots := by
    rw [hfailure]
    rfl
  by_cases hstrict : (shapeElement y.order (b.raw ||| placeBytes d x.portion)).flags.meets (ordStrict y.order) = true
  · rw [if_pos hstrict] at hshape ⊢
    rw [shapeReady_of_some hfailure (hlimit.trans hshape)]
  · rw [if_neg hstrict] at hshape ⊢
    rw [shapeReady_of_none (hlimit.trans hshape)]

end

/-! ## Counting (R120) -/

theorem countUp_stop {x : Lane} (n : Nat)
    (h : ∀ b, x.slots[x.progress.count - x.beatStart]? = some b → x.slotComplete b = false) : x.countUp n = x := by
  cases n with
  | zero => rfl
  | succ n =>
    unfold Lane.countUp
    cases hb : x.slots[x.progress.count - x.beatStart]? with
    | none => rfl
    | some b => simp [h b hb]

/-- The count passes the position it stands at, and no other. -/
theorem count_one {x : Lane} {b : BeatSlot} (hstart : x.beatStart ≤ x.progress.count)
    (hb : x.slots[x.progress.count - x.beatStart]? = some b) (hcomplete : x.slotComplete b = true)
    (hnext : ∀ n, x.slots[x.progress.count + 1 - x.beatStart]? = some n → x.slotComplete n = false) :
    x.count = { x.modSlot x.progress.count (fun b => { b with shaped := none }) with
      progress := x.progress.pass x.order (b.shaped.getD { bytes := 0, flags := {} }) } := by
  obtain ⟨m, hm⟩ : ∃ m, x.slots.length = m + 1 := by
    obtain ⟨hlt, -⟩ := List.getElem?_eq_some_iff.mp hb
    exact ⟨x.slots.length - 1, by omega⟩
  rw [Lane.count, hm, Lane.countUp, hb]
  simp only [hcomplete, if_true]
  refine countUp_stop m fun n hn => ?_
  have hplace : x.progress.count + 1 - x.beatStart ≠ x.progress.count - x.beatStart := by omega
  have hslot : (x.slots.modify (x.progress.count - x.beatStart) fun b => { b with shaped := none })[
      x.progress.count + 1 - x.beatStart]? = some n := hn
  rw [List.getElem?_modify_ne _ _ hplace.symm] at hslot
  exact hnext n hslot

/-- The progress past a position of an order other than DIGEST: the count and the sticky flags (R102, R120). -/
theorem pass_plain {o : BitVec 512} (p : Progress) (sh : Shaped) (h : orderKind o ≠ some .digest) :
    p.pass o sh = { p with count := p.count + 1, flags := p.flags.join sh.flags } := by
  unfold Progress.pass foldShaped
  rw [if_neg h]

/-- The progress past a position of a DIGEST: its bytes folded, first byte first (R107). -/
theorem pass_digest {o : BitVec 512} (p : Progress) (sh : Shaped) (h : orderKind o = some .digest) :
    p.pass o sh = { p with
      count := p.count + 1, flags := p.flags.join sh.flags
      digestA := ((List.range (fmtSize (ordDstFmt o))).foldl
        (fun ab j => foldByte ab (sh.bytes.toNat / 256 ^ j % 256)) (p.digestA, p.digestB)).1
      digestB := ((List.range (fmtSize (ordDstFmt o))).foldl
        (fun ab j => foldByte ab (sh.bytes.toNat / 256 ^ j % 256)) (p.digestA, p.digestB)).2 } := by
  unfold Progress.pass foldShaped
  rw [if_pos h, foldBytes, bytesOf_eq _ (fmtSize_le _), leBytes, List.foldl_map]

theorem isDigest_iff (o : BitVec 512) : orderKind o = some .digest ↔ (o.extractLsb' 0 8).toNat = 3 :=
  orderKind_iff o .digest

/-! ## The acknowledgement of a write (R120, R124) -/

/-- The acknowledgement of the last portion of the position at the progress count. -/
theorem writeDone_passes {y : Lane} (k : Nat) {x : LaneTxn} {b : BeatSlot} {sh : Shaped}
    (hkind : orderKind y.order ≠ some .digest) (hpos : x.pos = y.progress.count) (hstart : y.beatStart ≤ x.pos)
    (hb : y.slots[x.pos - y.beatStart]? = some b) (hlast : b.writesLeft = some 1) (hsh : b.shaped = some sh)
    (hnext : ∀ n, y.slots[x.pos + 1 - y.beatStart]? = some n → n.writesLeft ≠ some 0) :
    ((y.endTxn k).writeDone x).progress =
      { y.progress with count := y.progress.count + 1, flags := y.progress.flags.join sh.flags } := by
  have hacked : (y.slots.modify (x.pos - y.beatStart) fun b => { b with writesLeft := lessOne b.writesLeft })[
      x.pos - y.beatStart]? = some { b with writesLeft := some 0 } := by
    rw [List.getElem?_modify_eq, hb]
    simp [lessOne, hlast]
  have hothers : (y.slots.modify (x.pos - y.beatStart) fun b => { b with writesLeft := lessOne b.writesLeft })[
      x.pos + 1 - y.beatStart]? = y.slots[x.pos + 1 - y.beatStart]? :=
    List.getElem?_modify_ne _ _ (by omega)
  have hcomplete (z : Lane) (horder : z.order = y.order) (n : BeatSlot) : z.slotComplete n = (n.writesLeft == some 0) := by
    rw [Lane.slotComplete, horder, if_neg hkind]
  rw [hpos] at hacked hothers hstart hnext
  have hcount := count_one (x := (y.endTxn k).modSlot x.pos fun b => { b with writesLeft := lessOne b.writesLeft })
    (by exact hstart) (by rw [hpos]; exact hacked) (by rw [hcomplete _ (by rfl)]; rfl) (fun n hn => by
      rw [hcomplete _ (by rfl)]
      have hn' : y.slots[y.progress.count + 1 - y.beatStart]? = some n := by
        rw [← hothers]
        rw [hpos] at hn
        exact hn
      simpa using hnext n hn')
  rw [Lane.writeDone, hcount]
  change y.progress.pass y.order (b.shaped.getD _) = _
  rw [pass_plain _ _ hkind, hsh]
  rfl

theorem writeDone_keeps_buffer (x : Lane) (t : LaneTxn) :
    (x.writeDone t).slots.length = x.slots.length ∧ (x.writeDone t).place = x.place ∧ (x.writeDone t).txns = x.txns := by
  obtain ⟨slots, p, hcount⟩ := countUp_frame
    (x.modSlot t.pos fun b => { b with writesLeft := lessOne b.writesLeft }).slots.length
    (x.modSlot t.pos fun b => { b with writesLeft := lessOne b.writesLeft })
  obtain ⟨hraw, hplace⟩ := countUp_keeps
    (x.modSlot t.pos fun b => { b with writesLeft := lessOne b.writesLeft }).slots.length
    (x.modSlot t.pos fun b => { b with writesLeft := lessOne b.writesLeft })
  refine ⟨?_, hplace, ?_⟩
  · have hlength := congrArg List.length hraw
    rw [List.length_map, List.length_map] at hlength
    exact hlength.trans (slots_length_of_sameJob (modSlot_sameJob x _ _))
  · rw [Lane.writeDone, Lane.count, hcount]
    rfl

/-! ## The read that completes its position -/

section
variable {y : Lane} {x : LaneTxn} {b : BeatSlot} (h : y.Completes x b) (hstate : y.state = .reading) (k : Nat)
  (d : BitVec 64)
include h hstate

/-- A flag that STRICT selects fails the position, with no fault (R103). -/
theorem readData_strict
    (hstrict : (shapeElement y.order (b.raw ||| placeBytes d x.portion)).flags.meets (ordStrict y.order) = true)
    (hcount : orderKind y.order = some .digest → x.pos = y.progress.count) :
    ((y.endTxn k).readData x d).failure = some { pos := x.pos, portion := 0, fault := none } ∧
      ((y.endTxn k).readData x d).progress = y.progress := by
  have hready := shapeReady_received h k d
  rw [if_pos hstrict] at hready
  rw [readData_eq k x d hstate h.failure, hready]
  by_cases hk : orderKind y.order = some .digest
  · rw [if_pos hk, Lane.count, countUp_stop]
    · exact ⟨rfl, rfl⟩
    · intro n hn
      have hslot : (y.received k x d).slots[x.pos - y.beatStart]? = some n := by
        rw [hcount hk]
        exact hn
      rw [received_raw k d h.slot] at hslot
      obtain rfl := Option.some.inj hslot
      have horder : orderKind (y.received k x d).order = some .digest := hk
      simp [Lane.slotComplete, horder, h.unshaped]
  · rw [if_neg hk]
    exact ⟨rfl, rfl⟩

omit hstate in
/-- The buffer with the position of the read replaced. -/
theorem shaped_slot (b' : BeatSlot) :
    (y.slots.take (x.pos - y.beatStart) ++ b' :: y.slots.drop (x.pos - y.beatStart + 1))[x.pos - y.beatStart]? = some b' ∧
      (y.slots.take (x.pos - y.beatStart) ++ b' :: y.slots.drop (x.pos - y.beatStart + 1))[x.pos + 1 - y.beatStart]? =
        y.slots[x.pos + 1 - y.beatStart]? := by
  obtain ⟨hlt, -⟩ := List.getElem?_eq_some_iff.mp h.slot
  have hlength : (y.slots.take (x.pos - y.beatStart)).length = x.pos - y.beatStart := by
    rw [List.length_take]
    omega
  have hplace : x.pos + 1 - y.beatStart = x.pos - y.beatStart + 1 := by
    have := h.start
    omega
  rw [hplace, List.getElem?_append_right (by omega), List.getElem?_append_right (by omega), hlength, Nat.sub_self,
    Nat.add_sub_cancel_left, List.getElem?_cons_zero, List.getElem?_cons_succ, List.getElem?_drop]
  exact ⟨rfl, rfl⟩

theorem readData_shaped
    (hstrict : (shapeElement y.order (b.raw ||| placeBytes d x.portion)).flags.meets (ordStrict y.order) = false)
    (hk : orderKind y.order ≠ some .digest) :
    ((y.endTxn k).readData x d).failure = none ∧ ((y.endTxn k).readData x d).progress = y.progress ∧
      ((y.endTxn k).readData x d).slots[x.pos - y.beatStart]? = some
        { b with readsLeft := some 0, raw := b.raw ||| placeBytes d x.portion, isShaped := true
                 shaped := some (shapeElement y.order (b.raw ||| placeBytes d x.portion)) } := by
  have hready := shapeReady_received h k d
  rw [if_neg (by rw [hstrict]; decide)] at hready
  rw [readData_eq k x d hstate h.failure, if_neg hk, hready]
  exact ⟨h.failure, rfl, (shaped_slot h _).1⟩

theorem readData_digest
    (hstrict : (shapeElement y.order (b.raw ||| placeBytes d x.portion)).flags.meets (ordStrict y.order) = false)
    (hk : orderKind y.order = some .digest) (hcount : x.pos = y.progress.count) :
    ((y.endTxn k).readData x d).failure = none ∧ ((y.endTxn k).readData x d).progress =
      y.progress.pass y.order (shapeElement y.order (b.raw ||| placeBytes d x.portion)) := by
  have hready := shapeReady_received h k d
  rw [if_neg (by rw [hstrict]; decide)] at hready
  obtain ⟨hslot, hothers⟩ := shaped_slot h
    { b with readsLeft := some 0, raw := b.raw ||| placeBytes d x.portion, isShaped := true
             shaped := some (shapeElement y.order (b.raw ||| placeBytes d x.portion)) }
  have hcomplete (z : Lane) (horder : z.order = y.order) (n : BeatSlot) : z.slotComplete n = n.isShaped := by
    rw [Lane.slotComplete, horder, if_pos hk]
  have hnext := h.next
  have hstart := h.start
  rw [readData_eq k x d hstate h.failure, if_pos hk, hready]
  rw [hcount] at hslot hothers hstart hnext
  rw [count_one (b := { b with
    readsLeft := some 0, raw := b.raw ||| placeBytes d x.portion, isShaped := true
    shaped := some (shapeElement y.order (b.raw ||| placeBytes d x.portion)) })]
  · exact ⟨h.failure, rfl⟩
  · exact hstart
  · rw [hcount]
    exact hslot
  · rw [hcomplete _ (by rfl)]
  · intro n hn
    rw [hcomplete _ (by rfl)]
    rw [hcount] at hn
    exact (hnext n (hothers.symm.trans hn)).1

end

/-! ## The answers as commands -/

section
variable {s u : State} (hu : s.settled = u) {l : LaneNo} {k : Nat} {x : LaneTxn} (hx : (u.lane l).txns[k]? = some x)
include hu hx

theorem exec_laneRead_error (hkind : x.kind = .srcData) :
    exec (.laneReadResponse l k none) s = .next (u.laneTxnFails l k x .busErrorData) := by
  refine congrArg Host.Outcome.next ?_
  rw [serialise_eq, hu]
  simp [State.laneReadResponse, hx, hkind, AccessKind.isPointer, AccessKind.isWrite]

theorem exec_laneRead_data (hkind : x.kind = .srcData) (d : BitVec 64) :
    exec (.laneReadResponse l k (some d)) s = .next ((u.modLane l fun y => (y.endTxn k).readData x d).pump l) := by
  refine congrArg Host.Outcome.next ?_
  rw [serialise_eq, hu]
  simp [State.laneReadResponse, hx, hkind, AccessKind.isPointer, AccessKind.isWrite]

theorem exec_laneWrite_error (hkind : x.kind = .dstData) :
    exec (.laneWriteResponse l k false) s = .next (u.laneTxnFails l k x .busErrorData) := by
  refine congrArg Host.Outcome.next ?_
  rw [serialise_eq, hu]
  simp [State.laneWriteResponse, hx, hkind, AccessKind.isWrite]

theorem exec_laneWrite_ok (hkind : x.kind = .dstData) :
    exec (.laneWriteResponse l k true) s = .next ((u.modLane l fun y => (y.endTxn k).writeDone x).pump l) := by
  refine congrArg Host.Outcome.next ?_
  rw [serialise_eq, hu]
  simp [State.laneWriteResponse, hx, hkind, AccessKind.isWrite]

end

end Sys2Proof.Machine
end

section
/-! PROOFS. The answers to a lane's data accesses (chapter 7). -/

open Sys2Proof Sys2Proof.Machine Sys2Proof.Certificates

namespace Sys2Proof.Proofs

/-- Settles O45: the lane after the answer by the buffer, the shaping and the count; it has no position left to take. -/
theorem laneAnswersFillAndCountPositions : Obligations.LaneAnswersFillAndCountPositions := by
  intro s u l k x hu y hx hfailure hdone
  have hread (d : BitVec 64) (hkind : x.kind = .srcData) (hstate : y.state = .reading) :
      exec (.laneReadResponse l k (some d)) s = .next (u.setLane l ((y.endTxn k).readData x d)) ∧
        ((y.endTxn k).readData x d).txns = y.txns.eraseIdx k ∧
        ((y.endTxn k).readData x d).slots.length = y.slots.length := by
    obtain ⟨hraw, hplace, htxns⟩ := readData_keeps_buffer k x d hstate hfailure
    have hlength : ((y.endTxn k).readData x d).slots.length = y.slots.length := by
      have hmapped := congrArg List.length hraw
      rw [List.length_map, List.length_map] at hmapped
      exact hmapped.trans (slots_length_of_sameJob (sameJob_trans (endTxn_sameJob y k) (modSlot_sameJob _ _ _)))
    refine ⟨?_, htxns, hlength⟩
    rw [exec_laneRead_data hu hx hkind d, modLane_pump_done]
    rw [hlength, hplace]
    exact hdone
  refine ⟨fun hkind hstate d => ?_, fun hkind hstate d => ?_, fun hkind hstate hpos => ?_,
    fun hkind hstate hk hpos hstart b sh hb hlast hsh hnext => ?_,
    fun hkind hstate hstart b d hb hlast hunshaped hlower hnext hcount => ?_⟩
  · obtain ⟨hexec, htxns, hlength⟩ := hread d hkind hstate
    refine ⟨_, hexec, ?_⟩
    rw [lane_setLane_same]
    refine ⟨rfl, htxns, hlength, fun b hb => ?_⟩
    obtain ⟨hraw, -, -⟩ := readData_keeps_buffer k x d hstate hfailure
    have hslot := congrArg (fun rs : List (BitVec 64) => rs[x.pos - y.beatStart]?) hraw
    simp only [List.getElem?_map] at hslot
    rw [hslot, received_raw k d hb]
    rfl
  · cases d with
    | none => rw [exec_laneRead_error hu hx hkind, laneTxnFails_draining k x _ hstate]
    | some d =>
      have hdata : (y.endTxn k).readData x d = y.endTxn k := if_pos (.inl hstate)
      rw [exec_laneRead_data hu hx hkind d, modLane_pump_done] <;> rw [hdata]
      · rfl
      · exact hdone
  · rcases hkind with hkind | hkind
    · rw [if_pos hkind, exec_laneRead_error hu hx hkind, laneTxnFails_eq k _ hstate hfailure hpos]
    · rw [if_neg (by rw [hkind]; decide), exec_laneWrite_error hu hx hkind, laneTxnFails_eq k _ hstate hfailure hpos]
  · obtain ⟨hlength, hplace, htxns⟩ := writeDone_keeps_buffer (y.endTxn k) x
    have hpasses := writeDone_passes k (mt (isDigest_iff _).mp hk) hpos hstart hb hlast hsh hnext
    have hexec : exec (.laneWriteResponse l k true) s = .next (u.setLane l ((y.endTxn k).writeDone x)) := by
      rw [exec_laneWrite_ok hu hx hkind, modLane_pump_done]
      rw [hlength, hplace]
      exact hdone
    refine ⟨_, hexec, ?_⟩
    rw [lane_setLane_same]
    exact ⟨rfl, htxns, hpasses⟩
  · intro raw sh size fold digest strict
    obtain ⟨hexec, -, -⟩ := hread d hkind hstate
    have hcompletes : y.Completes x b := ⟨hb, hstart, hfailure, hlast, hunshaped, hlower, hnext⟩
    refine ⟨_, hexec, ?_⟩
    rw [lane_setLane_same]
    refine ⟨rfl, fun h => ?_, fun h hk => ?_, fun h hk => ?_⟩
    · exact readData_strict hcompletes hstate k d h fun hk => hcount ((isDigest_iff _).mp hk)
    · exact readData_shaped hcompletes hstate k d h (mt (isDigest_iff _).mp hk)
    · have hkd := (isDigest_iff _).mpr hk
      obtain ⟨hnone, hprogress⟩ := readData_digest hcompletes hstate k d h hkd (hcount hk)
      exact ⟨hnone, hprogress.trans (pass_digest _ _ hkd)⟩

end Sys2Proof.Proofs
end

section
/-! SUPPORT. Table entries by their bits (R129, R131, R132), and the walker: its attempts, its answers, and what they do to
the lane of a walk's one request (R122, R126, R133 to R142). -/

open Sys2Proof.Certificates

namespace Sys2Proof.Machine

/-! ## Table entries (R129) -/

/-- What a masked value says of each bit under the mask. -/
theorem getLsbD_of_masked {e m v : BitVec 64} (h : e &&& m = v) {i : Nat} (hm : m.getLsbD i = true) :
    e.getLsbD i = v.getLsbD i := by
  rw [← h, BitVec.getLsbD_and, hm, Bool.and_true]

theorem extract_of_masked {e m v : BitVec 64} (h : e &&& m = v) {lo n : Nat}
    (hbits : ∀ j < n, m.getLsbD (lo + j) = true ∧ v.getLsbD (lo + j) = false) : e.extractLsb' lo n = 0 := by
  ext j hj
  obtain ⟨hm, hv⟩ := hbits j hj
  simp [getLsbD_of_masked h hm, hv]

theorem getLsbD_of_extract {e : BitVec 64} {lo n : Nat} (h : e.extractLsb' lo n = 0) {i : Nat} (hlo : lo ≤ i)
    (hi : i < lo + n) : e.getLsbD i = false := by
  have hbit := congrArg (fun v => v.getLsbD (i - lo)) h
  have hlt : i - lo < n := by omega
  simpa [hlt, Nat.add_sub_cancel' hlo] using hbit

/-- The reserved bits of an entry (R129 check 2). -/
theorem reservedBits_iff (e : BitVec 64) :
    e &&& 0xFFFFF00000000F80#64 ≠ 0#64 ↔ e.extractLsb' 7 5 ≠ 0 ∨ e.extractLsb' 44 20 ≠ 0 := by
  rw [← not_iff_not, not_or, not_not, not_not, not_not]
  constructor
  · intro h
    exact ⟨extract_of_masked h (by decide), extract_of_masked h (by decide)⟩
  · rintro ⟨hlow, hhigh⟩
    refine BitVec.eq_of_getLsbD_eq fun i hi => ?_
    rw [BitVec.getLsbD_and, BitVec.getLsbD_zero]
    by_cases hm : (0xFFFFF00000000F80#64).getLsbD i = true
    · have hplace : (7 ≤ i ∧ i < 7 + 5) ∨ (44 ≤ i ∧ i < 44 + 20) :=
        (by decide : ∀ i < 64, (0xFFFFF00000000F80#64).getLsbD i = true → (7 ≤ i ∧ i < 7 + 5) ∨ (44 ≤ i ∧ i < 44 + 20)) i hi hm
      rcases hplace with ⟨hlo, hup⟩ | ⟨hlo, hup⟩
      · rw [getLsbD_of_extract hlow hlo hup, Bool.false_and]
      · rw [getLsbD_of_extract hhigh hlo hup, Bool.false_and]
    · rw [Bool.not_eq_true] at hm
      rw [hm, Bool.and_false]

theorem entMalformed_iff (e : BitVec 64) (level : Nat) : entMalformed e level = true ↔ MalformedAt e level := by
  have hreserved := reservedBits_iff e
  unfold MalformedAt
  rw [hreserved]
  simp [entMalformed, entLeaf, or_assoc, and_assoc]

/-- A well-formed table entry leads to the next table (R129). -/
theorem examine_table {e : BitVec 64} {level : Nat} (hlevel : level = 1 ∨ level = 2)
    (h : e &&& 0xFFFFF00000000FFF#64 = 1#64) : examine e level = .table (entryFrame e) := by
  have hvalid : entValid e = true := getLsbD_of_masked h (i := 0) (by decide)
  have hleaf : entLeaf e = false := getLsbD_of_masked h (i := 1) (by decide)
  have hformed : entMalformed e level = false := by
    have hlow : e.extractLsb' 7 5 = 0 := extract_of_masked h (by decide)
    have hhigh : e.extractLsb' 44 20 = 0 := extract_of_masked h (by decide)
    have hflags : e.extractLsb' 2 5 = 0 := extract_of_masked h (by decide)
    rcases hlevel with rfl | rfl <;> simp [entMalformed, hleaf, hlow, hhigh, hflags]
  simp [examine, hvalid, hformed, hleaf]

theorem examine_invalid {e : BitVec 64} (h : e.getLsbD 0 = false) (level : Nat) : examine e level = .fails .notMapped := by
  have hvalid : entValid e = false := h
  simp [examine, hvalid]

theorem examine_malformed {e : BitVec 64} {level : Nat} (hvalid : e.getLsbD 0 = true) (h : MalformedAt e level) :
    examine e level = .fails .entryMalformed := by
  rw [← entMalformed_iff] at h
  have hvalid : entValid e = true := hvalid
  simp [examine, hvalid, h]

theorem examine_leaf {e : BitVec 64} {level : Nat} (h : LeafAt e level) : examine e level = .leaf := by
  obtain ⟨hbits, hlevel⟩ := h
  have hvalid : entValid e = true := getLsbD_of_masked hbits (i := 0) (by decide)
  have hleaf : entLeaf e = true := getLsbD_of_masked hbits (i := 1) (by decide)
  have hformed : entMalformed e level = false := by
    have hlow : e.extractLsb' 7 5 = 0 := extract_of_masked hbits (by decide)
    have hhigh : e.extractLsb' 44 20 = 0 := extract_of_masked hbits (by decide)
    rcases hlevel with rfl | ⟨rfl, hblock⟩
    · simp [entMalformed, hleaf, hlow, hhigh]
    · have hblock' : e.extractLsb' 12 9 = 0 := hblock
      simp [entMalformed, hleaf, hlow, hhigh, hblock']
  simp [examine, hvalid, hformed, hleaf]

/-! ## Permissions and flags (R131, R132) -/

theorem permissionFault_none_iff (e : BitVec 64) (r : WalkRequest) : permissionFault e r = none ↔ Permitted e r := by
  unfold permissionFault Permitted entOwnerOnly entRead entWrite
  cases r.trust <;> cases r.write <;> cases e.getLsbD 4 <;> cases e.getLsbD 3 <;> cases e.getLsbD 2 <;> simp

section
variable {e : BitVec 64} {r : WalkRequest}

theorem permissionFault_ownerOnly (ht : r.trust = false) (h : e.getLsbD 4 = true) :
    permissionFault e r = some .ownerOnly := by
  have howner : entOwnerOnly e = true := h
  simp [permissionFault, ht, howner]

theorem owner_passes (ht : r.trust = true ∨ e.getLsbD 4 = false) : (!r.trust && entOwnerOnly e) = false := by
  rcases ht with ht | ht
  · rw [ht]
    rfl
  · exact (congrArg (!r.trust && ·) ht).trans (Bool.and_false _)

theorem permissionFault_readDenied (ht : r.trust = true ∨ e.getLsbD 4 = false) (hw : r.write = false)
    (h : e.getLsbD 2 = false) : permissionFault e r = some .readDenied := by
  have hread : entRead e = false := h
  simp [permissionFault, owner_passes ht, hw, hread]

theorem permissionFault_writeDenied (ht : r.trust = true ∨ e.getLsbD 4 = false) (hw : r.write = true)
    (h : e.getLsbD 3 = false) : permissionFault e r = some .writeDenied := by
  have hwrite : entWrite e = false := h
  simp [permissionFault, owner_passes ht, hw, hwrite]

theorem needsUpdate_iff : needsUpdate e r = true ↔ LacksFlags e r := by
  simp [needsUpdate, LacksFlags, entTouched, entModified]

theorem updateNeeded_iff (rs : List WalkRequest) :
    updateNeeded e rs = true ↔ ∃ r ∈ rs, Permitted e r ∧ LacksFlags e r := by
  simp only [updateNeeded, List.any_eq_true, Bool.and_eq_true, Option.isNone_iff_eq_none, permissionFault_none_iff,
    needsUpdate_iff]

/-- The flag update for one request that passed its checks (R132). -/
theorem updatedLeaf_single (h : Permitted e r) :
    updatedLeaf e [r] = e ||| 0x20#64 ||| if r.write = true then 0x40#64 else 0#64 := by
  have hpermitted : permissionFault (e ||| 0x20#64) r = none := by
    rw [permissionFault_none_iff]
    simpa [Permitted] using h
  unfold updatedLeaf
  simp only [List.any_cons, List.any_nil, Bool.or_false, hpermitted, Option.isNone_none, Bool.and_true]
  split
  · rfl
  · exact (BitVec.or_zero).symm

end

/-! ## The attempts of the walker (R128, R135, R142) -/

theorem levelIndex_page (page : BitVec 28) :
    levelIndex (pageEva page) 1 = (page.extractLsb' 18 10).setWidth 44 ∧
      levelIndex (pageEva page) 2 = (page.extractLsb' 9 9).setWidth 44 ∧
      levelIndex (pageEva page) 3 = (page.extractLsb' 0 9).setWidth 44 :=
  ⟨congrArg (BitVec.setWidth 44) (extractLsb'_append_add page 0#12 18 10),
    congrArg (BitVec.setWidth 44) (extractLsb'_append_add page 0#12 9 9),
    congrArg (BitVec.setWidth 44) (extractLsb'_append_add page 0#12 0 9)⟩

theorem startAttempt_eq (u : State) (k : Walk) : u.startAttempt k = attemptStarted u k := by
  unfold State.startAttempt State.attempt attemptStarted entryAddress Space.rootPa
  rw [(levelIndex_page k.page).1]
  rfl

theorem nextLevel_eq (u : State) (k : Walk) (base : Pa) {level : Nat} (h : level = 1 ∨ level = 2) :
    u.nextLevel k base (level + 1) = { u with
      walker := some { walk := k
                       phase := .reading (level + 1) (base +
                         (if level = 1 then (k.page.extractLsb' 9 9).setWidth 44
                          else (k.page.extractLsb' 0 9).setWidth 44) * 8#44)
                       timeout := u.busTimeout, age := 0 } } := by
  obtain ⟨-, hsecond, hthird⟩ := levelIndex_page k.page
  unfold State.nextLevel entryAddress
  rcases h with rfl | rfl
  · rw [hsecond]
    rfl
  · rw [hthird]
    rfl

theorem endAttempt_stale {w : Walk} (h : w.stale = true) (u : State) (as : Answers) (entry : Option CacheEntry) :
    u.endAttempt w as entry = attemptStarted u { w with stale := false } := by
  rw [State.endAttempt, if_pos h, startAttempt_eq]

theorem endAttempt_fresh {w : Walk} (h : w.stale = false) (u : State) (as : Answers) (entry : Option CacheEntry) :
    u.endAttempt w as entry = u.endWalk as entry := by
  rw [State.endAttempt, if_neg (by rw [h]; decide)]

/-! ## What a walk's answer does to its lane (R122, R126, R140) -/

/-- No step of a lane starts the walker (R139). -/
theorem pump_walker_none {s : State} (h : s.walker = none) (l : LaneNo) : (s.pump l).walker = none := by
  refine pump_induct (P := fun t => t.walker = none) (fun s t hs ht => ?_) s h
  have hrequest (sid : SpaceNo) (r : WalkRequest) : (s.requestTranslation sid r).1.walker = none := by
    unfold State.requestTranslation
    split
    · exact hs
    · split
      · exact hs
      · unfold State.enqueueRequest
        rw [hs]
        dsimp only
        split <;> rfl
  unfold State.laneStep at ht
  dsimp only at ht
  split at ht
  · cases ht
  · split at ht
    · cases ht
      exact hs
    · cases ht
      exact hs
    · rename_i k done p todo _
      split at ht
      · cases ht
      · have hwalker := hrequest (s.lane l).sid
          { lane := l, write := k.isWrite, eva := p.eva, trust := (s.lane l).trust, kind := k }
        split at ht <;> rename_i hanswer <;> rw [hanswer] at hwalker <;> cases ht <;> exact hwalker
    · cases ht
      exact hs
    · split at ht
      · cases ht
        exact hs
      · cases ht
    · split at ht
      · cases ht
        exact hs
      · cases ht

section
variable {u : State} {r : WalkRequest} {k : AccessKind} {held : List HeldPortion} {p : Portion} {todo : List Portion}
  (habandoned : r.abandoned = false) (hcursor : (u.lane r.lane).cursor = .translate k held (p :: todo))
  (hfailure : (u.lane r.lane).failure = none)
include habandoned hcursor hfailure

/-- A walk that ends in a fault for its one request. -/
theorem endWalk_fault (cause : Cause) (level : Nat) (entry : Pa) (inserted : Option CacheEntry) :
    u.endWalk [(r, .fault cause level entry)] inserted = walkFaulted u r p cause level entry := by
  have hlane : (u.lane r.lane).walkFault r cause level entry = { u.lane r.lane with
      request := false, cursor := .begin
      failure := some { pos := (u.lane r.lane).pos, portion := if p.off = 0 then 0 else 1
                        fault := some { cause := cause, access := r.kind, level := BitVec.ofNat 2 level
                                        element := (u.lane r.lane).element (u.lane r.lane).pos
                                        addr := r.eva.setWidth 44, entry := entry } } } := by
    unfold Lane.walkFault
    rw [hcursor]
    unfold Lane.fail
    simp only [hfailure]
  have hbase : u.endWalk [(r, .fault cause level entry)] inserted =
      State.deliver { u with walker := none, agenda := .walk :: u.agenda } [(r, .fault cause level entry)] := by
    cases inserted <;> rfl
  rw [hbase]
  unfold State.deliver State.answerLane
  simp only [List.foldl_cons, List.foldl_nil, habandoned, Bool.false_eq_true, if_false]
  rw [pump_stuck]
  · exact congrArg (fun x => { u.setLane r.lane x with walker := none, agenda := .walk :: u.agenda }) hlane
  · rw [lane_modLane_same]
    change ((u.lane r.lane).walkFault r cause level entry).mayStep = false
    rw [hlane]
    exact mayStep_failed rfl (Nat.le_refl _)

/-- A walk that ends in a translation for its one request, the last its lane waited for. -/
theorem endWalk_translation (htodo : todo = []) (hstate : (u.lane r.lane).state = .reading ∨ (u.lane r.lane).state = .writing)
    (hplace : (u.lane r.lane).place < (u.lane r.lane).slots.length) (pa : Pa) (inserted : Option CacheEntry) :
    (u.endWalk [(r, .translation pa)] inserted).walker = none ∧
      (u.endWalk [(r, .translation pa)] inserted).channels = u.channels ∧
      (∀ m, m ≠ r.lane → (u.endWalk [(r, .translation pa)] inserted).lane m = u.lane m) ∧
      IssuesInOrder (u.lane r.lane) u.busTimeout k (held ++ [{ portion := p, pa := pa, old := false }])
        (u.lane r.lane).txns ((u.endWalk [(r, .translation pa)] inserted).lane r.lane).txns := by
  subst htodo
  have hlane : (u.lane r.lane).translated pa = { u.lane r.lane with
      request := false, cursor := .translate k (held ++ [{ portion := p, pa := pa }]) [] } := by
    unfold Lane.translated
    rw [hcursor]
  obtain ⟨cache, hbase⟩ : ∃ cache, u.endWalk [(r, .translation pa)] inserted =
      State.deliver { u with walker := none, cache := cache, agenda := .walk :: u.agenda } [(r, .translation pa)] := by
    cases inserted with
    | none => exact ⟨_, rfl⟩
    | some e => exact ⟨_, rfl⟩
  generalize hv : ({ u with walker := none, cache := cache, agenda := .walk :: u.agenda } : State) = v at hbase
  have hvlane (m : LaneNo) : v.lane m = u.lane m := by rw [← hv]; rfl
  have hvtimeout : v.busTimeout = u.busTimeout := by rw [← hv]
  have hvchannels : v.channels = u.channels := by rw [← hv]
  have hvwalker : v.walker = none := by rw [← hv]
  have hdeliver : u.endWalk [(r, .translation pa)] inserted = (v.modLane r.lane fun x => x.translated pa).pump r.lane := by
    rw [hbase]
    unfold State.deliver State.answerLane
    simp only [List.foldl_cons, List.foldl_nil, habandoned, Bool.false_eq_true, if_false]
  obtain ⟨hchannels, hothers, -, -⟩ := modLane_pump v r.lane fun x => x.translated pa
  have hmoved : (v.modLane r.lane fun x => x.translated pa).lane r.lane = { u.lane r.lane with
      request := false, cursor := .translate k (held ++ [{ portion := p, pa := pa }]) [] } := by
    rw [lane_modLane_same, hvlane, hlane]
  have hmay : (u.lane r.lane).mayStep = true := (mayStep_iff _).mpr ⟨hstate, hplace, by simp [hfailure]⟩
  have hissues := issuesInOrder_translated (n := 255) (s := v.modLane r.lane fun x => x.translated pa) (l := r.lane)
    (by rw [hmoved]; exact hmay) (by rw [hmoved]) (by decide)
  rw [hdeliver]
  refine ⟨pump_walker_none (by exact hvwalker) _, hchannels.trans hvchannels, fun m hm => (hothers m hm).trans (hvlane m), ?_⟩
  rw [hmoved] at hissues
  have htimeout : (v.modLane r.lane fun x => x.translated pa).busTimeout = u.busTimeout := hvtimeout
  rw [htimeout] at hissues
  exact (issuesInOrder_congr (y := u.lane r.lane) (by rfl) (by rfl) _ _ _ _ _).mp hissues

end

/-! ## The walker at an entry (R129 to R135) -/

section
variable {u : State} {w : Walk} {level : Nat} {entry : Pa} {e : BitVec 64}

theorem entryRead_fails {cause : Cause} (h : examine e level = .fails cause) :
    u.entryRead w level entry e = u.endAttempt w (answerAll w.requests cause level entry) none := by
  unfold State.entryRead
  rw [h]

theorem entryRead_leaf (h : LeafAt e level) : u.entryRead w level entry e = u.atLeaf w e level entry := by
  unfold State.entryRead
  rw [examine_leaf h]

/-- At a leaf that needs no update, or in a space that makes none, the attempt ends. -/
theorem atLeaf_ends
    (h : (u.space w.sid).flagUpdate = false ∨ ∀ r ∈ w.requests, Permitted e r → ¬LacksFlags e r) :
    u.atLeaf w e level entry =
      u.endAttempt w (answerLeaf w.requests e level entry (flagClearAnswer e level entry)) (some (leafEntry w e level)) := by
  refine if_neg ?_
  rw [Bool.and_eq_true, updateNeeded_iff]
  rintro ⟨⟨r, hr, hpermitted, hlacks⟩, hupdate⟩
  rcases h with h | h
  · rw [hupdate] at h
    cases h
  · exact h r hr hpermitted hlacks

theorem atLeaf_exchanges {r : WalkRequest} (hr : w.requests = [r]) (hpermitted : Permitted e r) (hlacks : LacksFlags e r)
    (hupdate : (u.space w.sid).flagUpdate = true) :
    u.atLeaf w e level entry = { u with
      walker := some { walk := w
                       phase := .exchanging level entry e (e ||| 0x20#64 ||| if r.write = true then 0x40#64 else 0#64)
                       timeout := u.busTimeout, age := 0 } } := by
  have hneeded : (updateNeeded e w.requests && (u.space w.sid).flagUpdate) = true := by
    rw [hupdate, Bool.and_true, updateNeeded_iff, hr]
    exact ⟨r, List.mem_singleton_self r, hpermitted, hlacks⟩
  unfold State.atLeaf
  rw [if_pos hneeded, hr, updatedLeaf_single hpermitted]

theorem answerLeaf_fault {r : WalkRequest} {cause : Cause} (h : permissionFault e r = some cause)
    (passed : WalkRequest → Answer) : answerLeaf [r] e level entry passed = [(r, .fault cause level entry)] := by
  simp [answerLeaf, h]

theorem answerLeaf_passed {r : WalkRequest} (h : Permitted e r) (passed : WalkRequest → Answer) :
    answerLeaf [r] e level entry passed = [(r, passed r)] := by
  simp [answerLeaf, (permissionFault_none_iff e r).mpr h]

theorem leafTranslation_eq (r : WalkRequest) :
    leafTranslation e level r = .translation (framePa (e.extractLsb' 12 32 ++ 0#12) (level == 2) r.eva) := by
  rw [leafTranslation, translateIn_eq]
  rfl

end

/-! ## The walker's answers as commands -/

section
variable {s u : State} (hu : s.settled = u) (hpower : u.power ≠ .resetting) {w : Walker} (hw : u.walker = some w)
include hu hpower hw

theorem exec_tableRead_entry {level : Nat} {entry : Pa} (hphase : w.phase = .reading level entry) (e : BitVec 64) :
    exec (.tableReadResponse (some e)) s = .next (u.entryRead w.walk level entry e) := by
  refine congrArg Host.Outcome.next ?_
  rw [serialise_eq, hu]
  simp [State.tableReadResponse, hw, hphase, hpower]

theorem exec_tableRead_error {level : Nat} {entry : Pa} (hphase : w.phase = .reading level entry) :
    exec (.tableReadResponse none) s =
      .next (u.endAttempt w.walk (answerAll w.walk.requests .busErrorWalk level entry) none) := by
  refine congrArg Host.Outcome.next ?_
  rw [serialise_eq, hu]
  simp [State.tableReadResponse, State.walkerFails, hw, hphase, hpower]

end

/-- A walk whose requests all miss starts with its attempt (R135, R139). -/
theorem splitHits_miss {cache : List CacheEntry} {sid : SpaceNo} {rs : List WalkRequest}
    (h : ∀ r ∈ rs, lookupCache cache sid r = none) : splitHits cache sid rs = (cache, [], rs) := by
  induction rs with
  | nil => rfl
  | cons r rest ih =>
    unfold splitHits
    rw [h r List.mem_cons_self, ih fun q hq => h q (List.mem_cons_of_mem _ hq)]

theorem startWalk_eq {s : State} {w : Walk} {rest : List Walk} (hne : w.requests ≠ [])
    (h : ∀ r ∈ w.requests, lookupCache s.cache w.sid r = none) :
    s.startWalk w rest = attemptStarted { s with walkQueue := rest } { w with stale := false, compareFails := 0 } := by
  have hfalse : w.requests.isEmpty = false := by simpa using hne
  unfold State.startWalk
  rw [splitHits_miss h]
  dsimp only
  rw [hfalse, if_neg (by decide), startAttempt_eq]
  rfl

end Sys2Proof.Machine
end

section
/-! PROOFS. Walks (chapter 8). -/

open Sys2Proof Sys2Proof.Machine Sys2Proof.Certificates

namespace Sys2Proof.Proofs

/-- Settles O47: the walker's answers by what it finds in the entry, then the end of its attempt at the lane. -/
theorem walksReadLevelByLevel : Obligations.WalksReadLevelByLevel := by
  refine ⟨fun s w rest hdue hqueue hne hmiss => ?_, fun s u w level entry e hu hpower hw hphase => ?_⟩
  · have hwalk : s.walkDue = true := callsFor_of_nextDue hdue
    refine congrArg Host.Outcome.next (exec_of_due hdue ?_)
    rw [State.take, State.walkStep, if_pos hwalk, hqueue]
    exact startWalk_eq hne hmiss
  · have hentry := exec_tableRead_entry hu hpower hw hphase e
    have herror := exec_tableRead_error hu hpower hw hphase
    refine ⟨fun hlevel htable => ?_, fun data hstale hdata => ?_, fun r hleaf hr hpermitted hlacks hupdate => ?_,
      fun r k held p todo hstale hr hab => ?_⟩
    · rw [hentry, State.entryRead, examine_table hlevel htable]
      exact congrArg Host.Outcome.next (nextLevel_eq u w.walk _ hlevel)
    · rcases hdata with rfl | ⟨rfl, hfound⟩
      · rw [herror, endAttempt_stale hstale]
      · rw [hentry]
        refine congrArg Host.Outcome.next ?_
        cases hvalid : e.getLsbD 0 with
        | false => rw [entryRead_fails (examine_invalid hvalid level), endAttempt_stale hstale]
        | true =>
          rcases hfound with h | h | ⟨hleaf, hends⟩
          · rw [hvalid] at h
            cases h
          · rw [entryRead_fails (examine_malformed hvalid h), endAttempt_stale hstale]
          · rw [entryRead_leaf hleaf, atLeaf_ends hends, endAttempt_stale hstale]
    · rw [hentry, entryRead_leaf hleaf, atLeaf_exchanges hr hpermitted hlacks hupdate]
    · intro y hcursor hfailure faulted
      have hfault (cause : Cause) (inserted : Option CacheEntry) :
          u.endAttempt w.walk [(r, .fault cause level entry)] inserted = walkFaulted u r p cause level entry := by
        rw [endAttempt_fresh hstale, endWalk_fault hab hcursor hfailure]
      have hdenied (cause : Cause) (hleaf : LeafAt e level) (h : permissionFault e r = some cause) :
          exec (.tableReadResponse (some e)) s = faulted cause := by
        rw [hentry, entryRead_leaf hleaf, atLeaf_ends, hr, answerLeaf_fault h, hfault]
        refine .inr fun q hq hpermitted => absurd hpermitted ?_
        rw [hr, List.mem_singleton] at hq
        rw [hq, ← permissionFault_none_iff, h]
        simp
      refine ⟨?_, fun h => ?_, fun hvalid h => ?_, fun hleaf => ⟨fun ht h => ?_, fun ht hwr h => ?_, fun ht hwr h => ?_,
        fun hpermitted hlacks hupdate => ?_, fun hpermitted hlacks htodo hstate hplace => ?_⟩⟩
      · rw [herror, hr]
        exact congrArg Host.Outcome.next (hfault _ _)
      · rw [hentry, entryRead_fails (examine_invalid h level), hr]
        exact congrArg Host.Outcome.next (hfault _ _)
      · rw [hentry, entryRead_fails (examine_malformed hvalid h), hr]
        exact congrArg Host.Outcome.next (hfault _ _)
      · exact hdenied _ hleaf (permissionFault_ownerOnly ht h)
      · exact hdenied _ hleaf (permissionFault_readDenied ht hwr h)
      · exact hdenied _ hleaf (permissionFault_writeDenied ht hwr h)
      · have hanswer : flagClearAnswer e level entry r = .fault .flagClear level entry :=
          if_pos (needsUpdate_iff.mpr hlacks)
        rw [hentry, entryRead_leaf hleaf, atLeaf_ends (.inl hupdate), hr, answerLeaf_passed hpermitted, hanswer]
        exact congrArg Host.Outcome.next (hfault _ _)
      · have hanswer : flagClearAnswer e level entry r =
            .translation (framePa (e.extractLsb' 12 32 ++ 0#12) (level == 2) r.eva) :=
          (if_neg (mt needsUpdate_iff.mp hlacks)).trans (leafTranslation_eq r)
        have hends : ∀ q ∈ w.walk.requests, Permitted e q → ¬LacksFlags e q := by
          rw [hr]
          simpa using fun _ => hlacks
        refine ⟨_, ?_, endWalk_translation hab hcursor hfailure htodo hstate hplace _ (some (leafEntry w.walk e level))⟩
        rw [hentry, entryRead_leaf hleaf, atLeaf_ends (.inr hends), hr, answerLeaf_passed hpermitted, hanswer,
          endAttempt_fresh hstale]

end Sys2Proof.Proofs
end

section
/-! SUPPORT. The flag-update exchange (R132, R133, R138, R142) and the bus timeouts (R123). -/

open Sys2Proof.Certificates

namespace Sys2Proof.Machine

/-! ## The exchange as a command -/

section
variable {s u : State} (hu : s.settled = u) (hpower : u.power ≠ .resetting) {w : Walker} (hw : u.walker = some w)
  {level : Nat} {entry : Pa} {leaf new : BitVec 64} (hphase : w.phase = .exchanging level entry leaf new)
include hu hpower hw hphase

theorem exec_exchange_swapped :
    exec (.exchangeResponse .swapped) s = .next (u.endAttempt w.walk
      (answerLeaf w.walk.requests new level entry (leafTranslation new level)) (some (leafEntry w.walk new level))) := by
  refine congrArg Host.Outcome.next ?_
  rw [serialise_eq, hu]
  simp [State.exchangeResponse, State.exchangeDone, hw, hphase, hpower]

theorem exec_exchange_mismatch :
    exec (.exchangeResponse .mismatch) s = .next (u.compareFailed w.walk level entry leaf) := by
  refine congrArg Host.Outcome.next ?_
  rw [serialise_eq, hu]
  simp [State.exchangeResponse, hw, hphase, hpower]

theorem exec_exchange_error :
    exec (.exchangeResponse .error) s = .next (u.endAttempt w.walk
      (answerLeaf w.walk.requests leaf level entry fun _ => .fault .busErrorWalk level entry) none) := by
  refine congrArg Host.Outcome.next ?_
  rw [serialise_eq, hu]
  simp [State.exchangeResponse, State.walkerFails, hw, hphase, hpower]

end

section
variable {u : State} {w : Walk} {level : Nat} {entry : Pa} {leaf : BitVec 64}

theorem compareFailed_stale (h : w.stale = true) :
    u.compareFailed w level entry leaf = attemptStarted u { w with stale := false } := by
  rw [State.compareFailed, if_pos h, startAttempt_eq]

theorem compareFailed_restarts (h : w.stale = false) (hfails : w.compareFails < 3) :
    u.compareFailed w level entry leaf = attemptStarted u { w with compareFails := w.compareFails + 1 } := by
  rw [State.compareFailed, if_neg (by rw [h]; decide), if_pos (by rw [Config.compareFailureLimit]; omega), startAttempt_eq]

/-- The fourth failed comparison ends the walk (R133). -/
theorem compareFailed_ends (h : w.stale = false) (hfails : 3 ≤ w.compareFails) :
    u.compareFailed w level entry leaf =
      u.endWalk (answerLeaf w.requests leaf level entry fun _ => .fault .walkContention level entry) none := by
  rw [State.compareFailed, if_neg (by rw [h]; decide), if_neg (by rw [Config.compareFailureLimit]; omega)]

end

/-! ## Answers to abandoned requests (R138, R140) -/

theorem deliver_abandoned {as : Answers} (h : ∀ a ∈ as, a.1.abandoned = true) (s : State) : s.deliver as = s := by
  have hanswers : as.foldl State.answerLane s = s := by
    induction as with
    | nil => rfl
    | cons a rest ih =>
      have ha : s.answerLane a = s := if_pos (h a List.mem_cons_self)
      rw [List.foldl_cons, ha]
      exact ih fun b hb => h b (List.mem_cons_of_mem _ hb)
  have hpumps : as.foldl (fun s a => if a.1.abandoned then s else s.pump a.1.lane) s = s := by
    clear hanswers
    induction as with
    | nil => rfl
    | cons a rest ih =>
      rw [List.foldl_cons, if_pos (h a List.mem_cons_self)]
      exact ih fun b hb => h b (List.mem_cons_of_mem _ hb)
  unfold State.deliver
  rw [hanswers]
  exact hpumps

theorem fst_mem_answerLeaf {rs : List WalkRequest} {e : BitVec 64} {level : Nat} {entry : Pa}
    {passed : WalkRequest → Answer} {a : WalkRequest × Answer} (h : a ∈ answerLeaf rs e level entry passed) : a.1 ∈ rs := by
  unfold answerLeaf at h
  obtain ⟨r, hr, rfl⟩ := List.mem_map.mp h
  cases permissionFault e r <;> exact hr

/-- A walk whose requests are all abandoned ends without inserting anything. -/
theorem endWalk_abandoned {u : State} {as : Answers} (h : ∀ a ∈ as, a.1.abandoned = true) :
    u.endWalk as none = { u with walker := none, agenda := .walk :: u.agenda } := by
  unfold State.endWalk
  rw [deliver_abandoned h]
  rfl

theorem translates_answerLeaf {rs : List WalkRequest} {e : BitVec 64} {level : Nat} {entry : Pa}
    (h : ∃ r ∈ rs, Permitted e r) : (answerLeaf rs e level entry (leafTranslation e level)).translates = true := by
  obtain ⟨r, hr, hpermitted⟩ := h
  refine List.any_eq_true.mpr ⟨(r, leafTranslation e level r), ?_, rfl⟩
  refine List.mem_map.mpr ⟨r, hr, ?_⟩
  simp only [(permissionFault_none_iff e r).mpr hpermitted]

/-- A translation nobody waits for still enters the cache (R138). -/
theorem endWalk_inserts {u : State} {as : Answers} (h : ∀ a ∈ as, a.1.abandoned = true) (ht : as.translates = true)
    (e : CacheEntry) :
    u.endWalk as (some e) = { u with walker := none, agenda := .walk :: u.agenda, cache := insertCache u.cache e } := by
  unfold State.endWalk
  rw [deliver_abandoned h]
  simp only [ht, if_true]
  rfl

/-- What is left in the cache beside an entry inserted covers no address of its page (R138). -/
theorem not_covers_of_not_overlaps {f e : CacheEntry} (h : f.overlaps e = false) {a : Eva} (ha : evaPage a = e.page) :
    f.covers e.sid a = false := by
  by_contra hcovers
  rw [Bool.not_eq_false] at hcovers
  simp only [CacheEntry.covers, Bool.and_eq_true, beq_iff_eq, ha] at hcovers
  obtain ⟨hsid, hpage⟩ := hcovers
  have hoverlaps : f.overlaps e = true := by
    simp only [CacheEntry.overlaps, Bool.and_eq_true, beq_iff_eq]
    refine ⟨hsid, ?_⟩
    cases hf : f.block with
    | true => simpa [hf] using hpage
    | false =>
      have hpage : f.page = e.page := by simpa [hf] using hpage
      simp [hpage]
  rw [h] at hoverlaps
  cases hoverlaps

theorem insertCache_length (cache : List CacheEntry) (e : CacheEntry) : (insertCache cache e).length ≤ 32 := by
  unfold insertCache
  rw [List.length_cons, List.length_take]
  have : Config.cacheSlots - 1 = 31 := rfl
  omega

theorem mem_tail_insertCache {cache : List CacheEntry} {e f : CacheEntry} (h : f ∈ (insertCache cache e).tail) :
    f ∈ cache ∧ f.overlaps e = false := by
  have hfilter : f ∈ cache.filter fun g => !g.overlaps e := List.mem_of_mem_take h
  simpa using List.mem_filter.mp hfilter

/-! ## Bus timeouts (R123) -/

theorem operating_of_busTimeout {s : State} {t : TxnRef} (hdue : s.nextDue = some (.busTimeout t)) :
    s.operating = true ∧ s.timeoutDue t = true := callsFor_of_nextDue hdue

theorem exec_busTimeout {s t : State} {ref : TxnRef} (hdue : s.nextDue = some (.busTimeout ref)) (h : s.expireTxn ref = t) :
    exec (.busTimeoutExpiry ref) s = .next t := congrArg Host.Outcome.next (exec_of_due hdue h)

theorem exec_busTimeout_lane {s : State} {l : LaneNo} {k : Nat} {x : LaneTxn}
    (hdue : s.nextDue = some (.busTimeout (.lane l k))) (hx : (s.lane l).txns[k]? = some x) :
    exec (.busTimeoutExpiry (.lane l k)) s = .next (s.laneTxnFails l k x .busTimeout) := by
  obtain ⟨ho, ht⟩ := operating_of_busTimeout hdue
  refine exec_busTimeout hdue ?_
  simp [State.expireTxn, ho, ht, hx]

theorem exec_busTimeout_walker {s : State} {w : Walker} (hdue : s.nextDue = some (.busTimeout .walker))
    (hw : s.walker = some w) : exec (.busTimeoutExpiry .walker) s = .next (s.walkerFails w .busTimeout) := by
  obtain ⟨ho, ht⟩ := operating_of_busTimeout hdue
  refine exec_busTimeout hdue ?_
  simp [State.expireTxn, ho, ht, hw]

theorem exec_busTimeout_ring {s : State} {c : ChanNo} {k : Nat} {x : RingTxn}
    (hdue : s.nextDue = some (.busTimeout (.ring c k))) (hx : (s.chan c).ring[k]? = some x) :
    exec (.busTimeoutExpiry (.ring c k)) s = .next (s.ringTxnFails c k x true) := by
  obtain ⟨ho, ht⟩ := operating_of_busTimeout hdue
  refine exec_busTimeout hdue ?_
  simp [State.expireTxn, ho, ht, hx]

theorem walkerFails_reading {u : State} {w : Walker} {level : Nat} {entry : Pa} (h : w.phase = .reading level entry)
    (cause : Cause) :
    u.walkerFails w cause = u.endAttempt w.walk (answerAll w.walk.requests cause level entry) none := by
  simp [State.walkerFails, h]

theorem walkerFails_exchanging {u : State} {w : Walker} {level : Nat} {entry : Pa} {leaf new : BitVec 64}
    (h : w.phase = .exchanging level entry leaf new) (cause : Cause) :
    u.walkerFails w cause = u.endAttempt w.walk
      (answerLeaf w.walk.requests leaf level entry fun _ => .fault cause level entry) none := by
  simp [State.walkerFails, h]

end Sys2Proof.Machine
end

section
/-! PROOFS. The exchange (chapter 8) and bus timeouts (chapter 7). -/

open Sys2Proof Sys2Proof.Machine Sys2Proof.Certificates

namespace Sys2Proof.Proofs

/-- Settles O48: each answer of the exchange as the end of its attempt. -/
theorem exchangeFailuresRestartTheWalk : Obligations.ExchangeFailuresRestartTheWalk := by
  intro s u w level entry leaf new hu hpower hw hphase
  have hagenda : u.agenda = [] := by rw [← hu, settled_agenda]
  have hswapped := exec_exchange_swapped hu hpower hw hphase
  have hmismatch := exec_exchange_mismatch hu hpower hw hphase
  have herror := exec_exchange_error hu hpower hw hphase
  refine ⟨fun hstale r => ?_, fun hstale hfails => ?_, fun r k held p todo hstale hr hab => ?_,
    fun hab hstale hfails => ?_, fun hab hstale => ?_, fun hab hstale hpermitted => ?_⟩
  · cases r with
    | swapped => rw [hswapped, endAttempt_stale hstale]
    | mismatch => rw [hmismatch, compareFailed_stale hstale]
    | error => rw [herror, endAttempt_stale hstale]
  · rw [hmismatch, compareFailed_restarts hstale hfails]
  · intro y hcursor hfailure
    refine ⟨fun hpermitted hfails => ?_, fun hpermitted => ?_, fun hpermitted htodo hstate hplace => ?_⟩
    · rw [hmismatch, compareFailed_ends hstale hfails, hr, answerLeaf_passed hpermitted,
        endWalk_fault hab hcursor hfailure]
    · rw [herror, endAttempt_fresh hstale, hr, answerLeaf_passed hpermitted, endWalk_fault hab hcursor hfailure]
    · refine ⟨_, ?_, endWalk_translation hab hcursor hfailure htodo hstate hplace _ (some (leafEntry w.walk new level))⟩
      rw [hswapped, endAttempt_fresh hstale, hr, answerLeaf_passed hpermitted, leafTranslation_eq]
  · rw [hmismatch, compareFailed_ends hstale hfails, endWalk_abandoned fun a ha => hab _ (fst_mem_answerLeaf ha), hagenda]
  · rw [herror, endAttempt_fresh hstale, endWalk_abandoned fun a ha => hab _ (fst_mem_answerLeaf ha), hagenda]
  · have hends := endWalk_inserts (u := u) (fun a ha => hab _ (fst_mem_answerLeaf ha))
      (translates_answerLeaf (level := level) (entry := entry) hpermitted) (leafEntry w.walk new level)
    rw [hagenda] at hends
    refine ⟨_, hswapped.trans (congrArg Host.Outcome.next ((endAttempt_fresh hstale _ _ _).trans hends)), rfl,
      insertCache_length _ _, rfl, fun e he => ?_⟩
    obtain ⟨hmem, hoverlaps⟩ := mem_tail_insertCache he
    exact ⟨hmem, fun a ha => not_covers_of_not_overlaps hoverlaps ha⟩

/-- Settles O29: the timeout as the failure of the lane's transaction, of the walker's and of the ring's. -/
theorem busTimeoutEndsTheTransaction : Obligations.BusTimeoutEndsTheTransaction := by
  refine ⟨fun s l k x hdue hx hstate hfailure hpos => ?_, fun s l k hdue hstate => ?_,
    fun s w r k held p todo hdue hw hstale hr hab hcursor hfailure => ⟨fun level entry hphase => ?_,
      fun level entry leaf new hphase hpermitted => ?_⟩,
    fun s w hdue hw hstale => ?_, fun s c k x hdue hx hlive => ?_⟩
  · rw [exec_busTimeout_lane hdue hx, laneTxnFails_eq k _ hstate hfailure hpos]
  · obtain ⟨-, ht⟩ := operating_of_busTimeout hdue
    obtain ⟨x, hx⟩ : ∃ x, (s.lane l).txns[k]? = some x := by
      cases hx : (s.lane l).txns[k]? with
      | some x => exact ⟨x, rfl⟩
      | none => simp [State.timeoutDue, hx] at ht
    rw [exec_busTimeout_lane hdue hx, laneTxnFails_draining k x _ hstate]
  · rw [exec_busTimeout_walker hdue hw, walkerFails_reading hphase, endAttempt_fresh hstale, hr]
    exact congrArg Host.Outcome.next (endWalk_fault hab hcursor hfailure _ _ _ _)
  · rw [exec_busTimeout_walker hdue hw, walkerFails_exchanging hphase, endAttempt_fresh hstale, hr,
      answerLeaf_passed hpermitted, endWalk_fault hab hcursor hfailure]
  · rw [exec_busTimeout_walker hdue hw]
    cases hphase : w.phase with
    | reading level entry => rw [walkerFails_reading hphase, endAttempt_stale hstale]
    | exchanging level entry leaf new => rw [walkerFails_exchanging hphase, endAttempt_stale hstale]
  · obtain ⟨ho, -⟩ := operating_of_busTimeout hdue
    have hexec := exec_busTimeout_ring hdue hx
    refine ⟨fun hkind hstate => ?_, fun record hkind hstate => ?_⟩
    · have hcounts : s.readCounts c x = true := by simp [State.readCounts, hlive, ho, hstate]
      rw [hexec]
      refine congrArg Host.Outcome.next ?_
      simp only [State.ringTxnFails, hkind, hcounts, if_true]
      rw [endRingTxn_eq, State.ringFault, enterFaulted_eq (by exact ho), chan_setChan_same, setChan_setChan]
      rfl
    · have hcounts : s.writeCounts c x = true := by simp [State.writeCounts, hlive, ho, hstate]
      simp only [State.ringTxnFails, hkind, hcounts, if_true] at hexec
      rw [endRingTxn_eq, enterWedged_eq (by exact ho), chan_setChan_same, setChan_setChan] at hexec
      refine ⟨_, hexec, ?_⟩
      rw [chan_setChan_same]
      exact ⟨rfl, rfl, rfl, rfl, rfl, rfl⟩

end Sys2Proof.Proofs
end
